-- ==== Sys2Proof/Word.lean ====
section
/-! DEFINITION. The machine word of the register file and its two readings (spec/00_scope.md R11-R13). -/

namespace Sys2Proof

/-- A register of the file: 32 bits (R11). -/
abbrev Word := BitVec 32

/-- A byte of a staging register (R64). -/
abbrev Byte := BitVec 8

/-- `as_s` (R13): the word read as a signed 32-bit number. -/
abbrev asS (w : Word) : Int := w.toInt

/-- `as_u` and `wrap_u` (R13): the word whose bits are those of the integer, two's complement. -/
abbrev asU (v : Int) : Word := BitVec.ofInt 32 v

end Sys2Proof
end

