-- ==== Sys2Proof/Config.lean ====
section
/-! DEFINITION. The parameters of an engine instance (spec/00_scope.md R9, R10) and the two functions the spec leaves open
(spec/92_eei_decisions.md, Open parameters). -/

namespace Sys2Proof

/-- A fraction register's content (R47): `DIGITS` in bits 7:0 and `NEG` in bit 8.
Its reserved bits 31:9 read 0 and are not held (assumption 7). -/
structure Frac where
  digits : BitVec 8
  neg : Bool
deriving DecidableEq, Repr, Inhabited

/-- `BOUND_POLICY` (R9, R126, R127). -/
inductive BoundPolicy where
  | atOrBeyond
  | eqMax
deriving DecidableEq, Repr

/-- `SPLIT_RULE` (R9): the rule R141, or another total function, known only by a number (assumption 5). -/
inductive SplitRule where
  | default
  | custom (id : Nat)
deriving DecidableEq, Repr

/-- `SEALEVEL_FN` (R9, R206): the function of R201-R205, or another total function, known only by a number
(assumption 5). -/
inductive SealevelFn where
  | default
  | custom (id : Nat)
deriving DecidableEq, Repr

/-- A display split other than R141, uninterpreted: "any total function from a signed value to (integer part, fraction)"
(R9). DESIGN CHOICE (assumption 5): nothing is known of its values. Safe. -/
opaque Config.customSplit : Nat → Int → Int × Frac

/-- A sea-level function other than R201-R205, uninterpreted: "an uninterpreted function of exactly these three inputs"
(R206). DESIGN CHOICE (assumption 5): nothing is known of its values. Safe. -/
opaque Config.customSealevel : Nat → Word → Int → Int → Word

/-- The parameter record of R9, with the defaults of its table. -/
structure Params where
  /-- `HAS_H` -/
  hasH : Bool := true
  /-- `P_CENTI` -/
  pCenti : Bool := hasH
  /-- `BOUND_POLICY` -/
  boundPolicy : BoundPolicy := .atOrBeyond
  /-- `BUSY_CHECK` -/
  busyCheck : Bool := true
  /-- `AVG_T_EN` -/
  avgTEn : Bool := true
  /-- `AVG_H_EN` -/
  avgHEn : Bool := hasH
  /-- `AVG_N` -/
  avgN : Nat := 8
  /-- `SEALEVEL_EN` -/
  sealevelEn : Bool := true
  /-- `ALT_M`, metres -/
  altM : Int := 0
  /-- `T_MIN` -/
  tMin : BitVec 20 := 0x00000
  /-- `T_MAX` -/
  tMax : BitVec 20 := 0xFFFF0
  /-- `P_MIN` -/
  pMin : BitVec 20 := 0x00000
  /-- `P_MAX` -/
  pMax : BitVec 20 := 0xFFFF0
  /-- `H_MIN` -/
  hMin : BitVec 16 := 0x0000
  /-- `H_MAX` -/
  hMax : BitVec 16 := 0xFFFF
  /-- `SPLIT_RULE` -/
  splitRule : SplitRule := .default
  /-- `SEALEVEL_FN` -/
  sealevelFn : SealevelFn := .default
deriving DecidableEq, Repr

/-- The default engine of R9. -/
def Params.standard : Params := {}

/-- The reduced variant of R9 with its defaults (`P_CENTI` and `AVG_H_EN` follow `HAS_H`). -/
def Params.reduced : Params := { hasH := false }

/-- R10: the records that are a legal engine. -/
def Params.legal (p : Params) : Bool :=
  (!p.avgHEn || p.hasH) && decide (1 ≤ p.avgN ∧ p.avgN ≤ 64) && decide (-500 ≤ p.altM ∧ p.altM ≤ 9000) &&
    decide (p.tMin < p.tMax) && decide (p.pMin < p.pMax) && decide (p.hMin < p.hMax)

end Sys2Proof
end

