-- ==== Sys2Proof/Syntax.lean ====
section
/-! DEFINITION. The commands of the engine: one constructor per row of spec/opcode_table.json (spec/30_encoding.md R82). -/

namespace Sys2Proof

/-- A command of R82. -/
inductive Instr where
  /-- `NOP`, R240 -/
  | nop
  /-- `SRESET`, R241 -/
  | sreset
  /-- `ERR_CLR`, R242 -/
  | errClr
  /-- `ERR_SET m`, R243: `m` is `ARG[1:0]` (R83; assumption 12) -/
  | errSet (m : BitVec 2)
  /-- `CAL_LATCH`, R104 -/
  | calLatch
  /-- `CHK_BUSY`, R121 -/
  | chkBusy
  /-- `UNPACK`, R123 -/
  | unpack
  /-- `CHK_BOUNDS`, R129 -/
  | chkBounds
  /-- `COMP_T`, R140 -/
  | compT
  /-- `COMP_P`, R160 -/
  | compP
  /-- `COMP_H`, R180 -/
  | compH
  /-- `SEALEVEL`, R200 -/
  | sealevel
  /-- `AVG_T`, R224 -/
  | avgT
  /-- `AVG_H`, R225 -/
  | avgH
  /-- `AVG_CLR`, R226 -/
  | avgClr
  /-- `MEASURE`, R244 -/
  | measure
deriving DecidableEq, Repr

end Sys2Proof
end

