-- ==== Sys2Proof/Machine/Features.lean ====
section
/-! DEFINITION. Which commands an engine has, and which are gated (spec/30_encoding.md R82, R86). -/

namespace Sys2Proof.Machine

/-- The "needs" column of R82: the command exists in an engine with parameters `p` (R86). -/
def featurePresent (p : Params) (i : Instr) : Bool :=
  match i with
  | .nop => true
  | .sreset => true
  | .errClr => true
  | .errSet _ => true
  | .calLatch => true
  | .chkBusy => p.busyCheck
  | .unpack => true
  | .chkBounds => true
  | .compT => true
  | .compP => true
  | .compH => p.hasH
  | .sealevel => p.sealevelEn
  | .avgT => p.avgTEn
  | .avgH => p.avgHEn
  | .avgClr => p.avgTEn || p.avgHEn
  | .measure => true

/-- The "gate" column of R82: the data-path commands that begin with the configuration gate of R120. -/
def isGated (i : Instr) : Bool :=
  match i with
  | .nop => false
  | .sreset => false
  | .errClr => false
  | .errSet _ => false
  | .calLatch => false
  | .chkBusy => true
  | .unpack => true
  | .chkBounds => true
  | .compT => true
  | .compP => true
  | .compH => true
  | .sealevel => true
  | .avgT => true
  | .avgH => true
  | .avgClr => false
  | .measure => true

end Sys2Proof.Machine
end

