-- ==== Sys2Proof/WellFormed.lean ====
section
/-! DEFINITION. When a command is a command of a given engine (spec/30_encoding.md R86).
The only operand, the two-bit mask of `ERR_SET`, is well formed by its type (R83). -/

namespace Sys2Proof

/-- R86: the engine with parameters `p` has the feature the command needs. -/
def Instr.wellFormed (p : Params) (i : Instr) : Bool :=
  Machine.featurePresent p i

end Sys2Proof
end

