-- ==== Sys2Proof/Decode.lean ====
section
/-! DEFINITION. Decoding a command word in the order of spec/30_encoding.md R84, and the encoder of format `C` (R81, R92). -/

namespace Sys2Proof

/-- The illegal words of R87, by the check of R84 that fails first. -/
inductive Illegal where
  /-- `w[31:16]` is not 0 (check 1) -/
  | reservedBits
  /-- `w[7:0]` is no opcode of R82 (check 2, R85) -/
  | reservedOpcode
  /-- the parameter in the "needs" column is false (check 3, R86) -/
  | featureAbsent
  /-- `w[15:8]` is not an argument the command takes (check 4, R83) -/
  | badArgument
deriving DecidableEq, Repr

/-- `OPC` of format `C` (R81). -/
def opcField (w : Word) : BitVec 8 := w.extractLsb' 0 8

/-- `ARG` of format `C` (R81). -/
def argField (w : Word) : BitVec 8 := w.extractLsb' 8 8

/-- `RSV` of format `C` (R81). -/
def rsvField (w : Word) : BitVec 16 := w.extractLsb' 16 16

/-- The opcode map of R82: the command of an opcode, with `ARG[1:0]` where it takes an operand. -/
def opcodeMap (opc : BitVec 8) (m : BitVec 2) : Option Instr :=
  match opc.toNat with
  | 0x00 => some .nop
  | 0x01 => some .sreset
  | 0x02 => some .errClr
  | 0x03 => some (.errSet m)
  | 0x08 => some .calLatch
  | 0x10 => some .chkBusy
  | 0x11 => some .unpack
  | 0x12 => some .chkBounds
  | 0x20 => some .compT
  | 0x21 => some .compP
  | 0x22 => some .compH
  | 0x23 => some .sealevel
  | 0x30 => some .avgT
  | 0x31 => some .avgH
  | 0x32 => some .avgClr
  | 0x40 => some .measure
  | _ => none

/-- Check 4 of R84: `ARG` is 0, or the command is `ERR_SET` and `ARG[7:2]` is 0. -/
def argumentOk (i : Instr) (arg : BitVec 8) : Bool :=
  match i with
  | .errSet _ => arg.extractLsb' 2 6 == 0
  | _ => arg == 0

/-- R84: the command a word stands for in an engine with parameters `p`, or the first check it fails. -/
def decode (p : Params) (w : Word) : Except Illegal Instr :=
  if rsvField w ≠ 0 then .error .reservedBits
  else
    match opcodeMap (opcField w) ((argField w).extractLsb' 0 2) with
    | none => .error .reservedOpcode
    | some i =>
      if !i.wellFormed p then .error .featureAbsent
      else if !argumentOk i (argField w) then .error .badArgument
      else .ok i

/-- The opcode column of R82. -/
def opcode (i : Instr) : BitVec 8 :=
  match i with
  | .nop => 0x00
  | .sreset => 0x01
  | .errClr => 0x02
  | .errSet _ => 0x03
  | .calLatch => 0x08
  | .chkBusy => 0x10
  | .unpack => 0x11
  | .chkBounds => 0x12
  | .compT => 0x20
  | .compP => 0x21
  | .compH => 0x22
  | .sealevel => 0x23
  | .avgT => 0x30
  | .avgH => 0x31
  | .avgClr => 0x32
  | .measure => 0x40

/-- The `ARG` field of a command: the mask of `ERR_SET`, otherwise 0 (R83). -/
def argument (i : Instr) : BitVec 8 :=
  match i with
  | .errSet m => m.setWidth 8
  | _ => 0

/-- The word of a command: `RSV` = 0, then `ARG`, then `OPC` (R81). -/
def encode (i : Instr) : Word :=
  (0 : BitVec 16) ++ argument i ++ opcode i

/-- The command that the decoder of the default engine, which has every feature, reads from the low `nbits` bits of `w`
(assumption 18). -/
def decodeTableWord (nbits w : Nat) : Option Instr :=
  match decode Params.standard (BitVec.ofNat 32 (w % 2 ^ nbits)) with
  | .ok i => some i
  | .error _ => none

end Sys2Proof
end

