-- ==== Sys2Proof/Machine/State.lean ====
section
/-! DEFINITION. The state of the engine (spec/10_state.md), the reasons a step can stop, and the state after power-on
(spec/70_reset_and_hazards.md R301). -/

namespace Sys2Proof.Machine

/-- `RESULT` codes (spec/60_exceptions.md R271).
Codes 8-15 are "never produced" and are no constructor. -/
inductive ResultCode where
  | ok
  | configError
  | sensorBusy
  | outOfRange
  | divByZero
  | calInvalid
  | sequenceError
  | illegalCmd
deriving DecidableEq, Repr

/-- The fields of `STATUS` (R26); bits 31:11 read 0 and are not held (assumption 7). -/
structure Status where
  result : ResultCode
  divz : Bool
  tv : Bool
  pv : Bool
  hv : Bool
  calValid : Bool
  hcz : Bool
  rearm : Bool
deriving DecidableEq, Repr

/-- One channel's pair in `BOUND` (R31). -/
structure BoundPair where
  low : Bool
  high : Bool
deriving DecidableEq, Repr

/-- The six flags of `BOUND` (R31); bits 31:6 read 0 and are not held (assumption 7). -/
structure Bound where
  t : BoundPair
  p : BoundPair
  h : BoundPair
deriving DecidableEq, Repr

/-- Eighteen things, one per calibration coefficient, in the order of R33: the registers `DIG_*` (words), or the values
`CAL_LATCH` unpacks (exact integers). -/
structure CoeffSet (α : Type) where
  t1 : α
  t2 : α
  t3 : α
  p1 : α
  p2 : α
  p3 : α
  p4 : α
  p5 : α
  p6 : α
  p7 : α
  p8 : α
  p9 : α
  h1 : α
  h2 : α
  h3 : α
  h4 : α
  h5 : α
  h6 : α
deriving DecidableEq, Repr

/-- The temperature outputs `T_FINE`, `T_C100`, `T_INT`, `T_FRAC` (R37). -/
structure TempOut where
  fine : Word
  c100 : Word
  int : Word
  frac : Frac
deriving DecidableEq, Repr

/-- The pressure outputs `P_COMP`, `P_INT`, `P_FRAC` (R38). -/
structure PressOut where
  comp : Word
  int : Word
  frac : Word
deriving DecidableEq, Repr

/-- The humidity outputs `H_Q10`, `H_C100`, `H_INT`, `H_FRAC` (R39). -/
structure HumOut where
  q10 : Word
  c100 : Word
  int : Word
  frac : Frac
deriving DecidableEq, Repr

/-- One averaging channel (R41, R42): `AVG_c`, `AVG_c_INT`, `AVG_c_FRAC`, `AVG_c_CNT` and the window `WIN_c`, its entries in
order of index; the window of a disabled channel does not exist and is the empty list (assumption 8). -/
structure AvgChan where
  mean : Word
  int : Word
  frac : Frac
  cnt : Word
  win : List Word
deriving DecidableEq, Repr

/-- A host access on the register port (spec/20_memory.md R61-R63): a 10-bit byte offset (assumption 11) and the access's
width in bytes, of which only 4 is legal. -/
inductive Access where
  | read (off : BitVec 10) (bytes : Nat)
  | write (off : BitVec 10) (bytes : Nat) (v : Word)
deriving DecidableEq, Repr

/-- The host's side of the port, the MODEL's own fields: the accesses still to be served, oldest first (assumption 2), and the
value the latest read returned (assumption 3). -/
structure Port where
  pending : List Access
  readData : Option Word
deriving DecidableEq, Repr

/-- Why a run stops. "A model treats an access error as a fault of the host program" (R75, R279). -/
inductive Fault where
  /-- Raised by the port on an access whose offset is no multiple of 4 (R75). Safe: the spec faults the run. -/
  | misaligned
  /-- Raised by the port on an access to an offset where no register is mapped (R72, R75). Safe: the spec faults the run. -/
  | unmapped
  /-- Raised by the port on an access that is not 32 bits wide (R63, R75). Safe: the spec faults the run. -/
  | badWidth
deriving DecidableEq, Repr

/-- Why something is refused. -/
inductive Refusal where
  /-- Raised by an arm of `exec` whose command has no meaning yet: none has this reason in this model. Safe. -/
  | notModelled (mnemonic : String)
  /-- Raised by `buildEngine` on a parameter record that breaks R10 ("a model refuses to build it"). Safe. -/
  | illegalParameters
deriving DecidableEq, Repr

/-- The engine's state (R20): the registers of R22, the two averaging windows and the `STATUS` bits, with the instance's
parameters, which no command changes (R9; assumption 1), and the host's side of the port.
`CMD`, `FEATURES` and `SITE_ALT` hold no state (R25, R27, R32). -/
structure State where
  cfg : Params
  port : Port
  status : Status
  err : BitVec 2
  sensorStatus : BitVec 8
  mode : BitVec 2
  bound : Bound
  calraw : Vector Word 9
  dig : CoeffSet Word
  raw0 : Word
  raw1 : Word
  adcP : BitVec 20
  adcT : BitVec 20
  adcH : BitVec 16
  temp : TempOut
  press : PressOut
  hum : HumOut
  slp : Word
  avgT : AvgChan
  avgH : AvgChan
deriving DecidableEq, Repr

/-- The outcome of a command or an access. -/
abbrev Out := Host.Outcome State Fault Refusal

/-- The same thing for every coefficient. -/
def CoeffSet.const {α : Type} (x : α) : CoeffSet α :=
  ⟨x, x, x, x, x, x, x, x, x, x, x, x, x, x, x, x, x, x⟩

/-- The empty averaging channel: all registers 0, `n` window entries of 0 (R226, R301). -/
def AvgChan.empty (n : Nat) : AvgChan :=
  { mean := 0, int := 0, frac := ⟨0, false⟩, cnt := 0, win := List.replicate n 0 }

/-- The number of entries a channel's window has: `AVG_N`, or none when the channel is disabled (R42). -/
def windowLength (en : Bool) (n : Nat) : Nat :=
  if en then n else 0

/-- The state after power-on of an engine with parameters `p` (R300, R301), with no access pending. -/
def State.powerOn (p : Params) : State where
  cfg := p
  port := { pending := [], readData := none }
  status :=
    { result := .ok, divz := false, tv := false, pv := false, hv := false, calValid := false, hcz := false, rearm := false }
  err := 0
  sensorStatus := 0
  mode := 0
  bound := { t := ⟨false, false⟩, p := ⟨false, false⟩, h := ⟨false, false⟩ }
  calraw := Vector.replicate 9 0
  dig := CoeffSet.const 0
  raw0 := 0
  raw1 := 0
  adcP := 0
  adcT := 0
  adcH := 0
  temp := { fine := 0, c100 := 0, int := 0, frac := ⟨0, false⟩ }
  press := { comp := 0, int := 0, frac := 0 }
  hum := { q10 := 0, c100 := 0, int := 0, frac := ⟨0, false⟩ }
  slp := 0
  avgT := AvgChan.empty (windowLength p.avgTEn p.avgN)
  avgH := AvgChan.empty (windowLength p.avgHEn p.avgN)

/-- The machine right after reset: the engine with the default parameters of R9 (assumption 13). -/
def State.reset : State := State.powerOn Params.standard

end Sys2Proof.Machine
end

