-- ==== Sys2Proof/Machine/Flags.lean ====
section
/-! DEFINITION. The flag registers: the numbers of the result codes, the registers assembled from fields on a read, the
bound flags, and the completion of a command (spec/10_state.md R26, R27, R31, R47; spec/41_acquisition.md R126-R128). -/

namespace Sys2Proof.Machine

/-- The result codes of R271. -/
def ResultCode.code (r : ResultCode) : BitVec 4 :=
  match r with
  | .ok => 0
  | .configError => 1
  | .sensorBusy => 2
  | .outOfRange => 3
  | .divByZero => 4
  | .calInvalid => 5
  | .sequenceError => 6
  | .illegalCmd => 7

/-- A flag at bit `k` of a register. -/
def flagBit (b : Bool) (k : Nat) : Word := (BitVec.ofBool b).setWidth 32 <<< k

/-- `STATUS` as the host reads it (R26). -/
def statusWord (f : Status) : Word :=
  f.result.code.setWidth 32 ||| flagBit f.divz 4 ||| flagBit f.tv 5 ||| flagBit f.pv 6 ||| flagBit f.hv 7 |||
    flagBit f.calValid 8 ||| flagBit f.hcz 9 ||| flagBit f.rearm 10

/-- `BOUND` as the host reads it (R31). -/
def boundWord (b : Bound) : Word :=
  flagBit b.t.low 0 ||| flagBit b.t.high 1 ||| flagBit b.p.low 2 ||| flagBit b.p.high 3 ||| flagBit b.h.low 4 |||
    flagBit b.h.high 5

/-- `FEATURES` (R27). -/
def featuresWord (p : Params) : Word :=
  flagBit p.hasH 0 ||| flagBit p.pCenti 1 ||| flagBit (p.boundPolicy == .eqMax) 2 ||| flagBit p.busyCheck 3 |||
    flagBit p.avgTEn 4 ||| flagBit p.avgHEn 5 ||| flagBit p.sealevelEn 6 ||| (BitVec.ofNat 8 p.avgN).setWidth 32 <<< 8

/-- A fraction register as the host reads it (R47). -/
def fracWord (f : Frac) : Word := f.digits.setWidth 32 ||| flagBit f.neg 8

/-- The bound predicates of R126 (`AT_OR_BEYOND`) and R127 (`EQ_MAX`). -/
def checkPair (pol : BoundPolicy) (v lo hi : Nat) : BoundPair :=
  match pol with
  | .atOrBeyond => { low := decide (v ≤ lo), high := decide (v ≥ hi) }
  | .eqMax => { low := false, high := decide (v = hi) }

/-- Either flag of the pair is 1 (R128). -/
def BoundPair.any (b : BoundPair) : Bool := b.low || b.high

/-- Any of the six flags is 1 (R128). -/
def Bound.any (b : Bound) : Bool := b.t.any || b.p.any || b.h.any

end Sys2Proof.Machine
end

