-- ==== Sys2Proof/Machine/Arith.lean ====
section
/-! DEFINITION. The operators of spec/00_scope.md R14 and R15 that are not a plain operation of the word type.
On words `+`, `-`, `*`, `<<<` wrap as R14 says for both kinds; `/` is `udiv` and `>>>` is `>>l`. -/

namespace Sys2Proof.Machine

/-- `a >>a n` (R14): the arithmetic right shift, floor(a / 2^n). -/
def sra (a : Word) (n : Nat) : Word := a.sshiftRight n

/-- `clamp` (R15) on exact integers. -/
def clampInt (v lo hi : Int) : Int := min (max v lo) hi

/-- `clamp` (R15) of a word read as `s32`. -/
def clampS (v : Word) (lo hi : Int) : Word := asU (clampInt (asS v) lo hi)

/-- `v >> n` on exact integers (R15): floor(v / 2^n). -/
def floorShift (v : Int) (n : Nat) : Int := v / 2 ^ n

/-- `a quot b` (R15): division truncating toward zero. -/
def quot (a b : Int) : Int := a.tdiv b

/-- `zext_N` (R15). -/
def zextInt {n : Nat} (v : BitVec n) : Int := v.toNat

/-- `sext_N` (R15): the field read as two's complement. -/
def sextInt {n : Nat} (v : BitVec n) : Int := v.toInt

end Sys2Proof.Machine
end

