-- ==== Sys2Proof/Machine/Operands.lean ====
section
/-! DEFINITION. The operands that commands read from the staging registers: byte lanes, the calibration image, the burst
(spec/20_memory.md R64-R66; spec/40_calibration.md R100-R103; spec/41_acquisition.md R124). -/

namespace Sys2Proof.Machine

/-- Byte lane `j` of a word (R64): bits [8j+7 : 8j]. -/
def lane (w : Word) (j : Nat) : Byte := w.extractLsb' (8 * j) 8

/-- `cb[j]` (R34, R64): byte `j` of the calibration image. -/
def calByte (img : Vector Word 9) (j : Fin 36) : Byte :=
  lane (img.get ⟨j.val / 4, by omega⟩) (j.val % 4)

/-- `bb[j]` (R35, R64): byte `j` of the burst. -/
def burstByte (raw0 raw1 : Word) (j : Fin 8) : Byte :=
  lane (if j.val < 4 then raw0 else raw1) (j.val % 4)

/-- `le16` (R101): the byte at the lower address is bits 7:0 (R65). -/
def le16 (lo hi : Byte) : BitVec 16 := hi ++ lo

/-- A 12-bit coefficient (R102): the byte is bits 11:4, the nibble bits 3:0. -/
def nibbled (hi : Byte) (lo : BitVec 4) : BitVec 12 := hi ++ lo

/-- `unpack(cb)` (R101-R103): the coefficients of the calibration image as exact integers; the humidity coefficients are 0 in
the reduced variant. -/
def unpackCal (hasH : Bool) (img : Vector Word 9) : CoeffSet Int :=
  let cb := calByte img
  let hum (v : Int) : Int := if hasH then v else 0
  { t1 := zextInt (le16 (cb 0) (cb 1))
    t2 := sextInt (le16 (cb 2) (cb 3))
    t3 := sextInt (le16 (cb 4) (cb 5))
    p1 := zextInt (le16 (cb 6) (cb 7))
    p2 := sextInt (le16 (cb 8) (cb 9))
    p3 := sextInt (le16 (cb 10) (cb 11))
    p4 := sextInt (le16 (cb 12) (cb 13))
    p5 := sextInt (le16 (cb 14) (cb 15))
    p6 := sextInt (le16 (cb 16) (cb 17))
    p7 := sextInt (le16 (cb 18) (cb 19))
    p8 := sextInt (le16 (cb 20) (cb 21))
    p9 := sextInt (le16 (cb 22) (cb 23))
    h1 := hum (zextInt (cb 25))
    h2 := hum (sextInt (le16 (cb 26) (cb 27)))
    h3 := hum (zextInt (cb 28))
    h4 := hum (sextInt (nibbled (cb 29) ((cb 30).extractLsb' 0 4)))
    h5 := hum (sextInt (nibbled (cb 31) ((cb 30).extractLsb' 4 4)))
    h6 := hum (sextInt (cb 32)) }

/-- The zero check of R104, R105: a temperature or pressure coefficient is 0. -/
def CoeffSet.tpZero (c : CoeffSet Int) : Bool :=
  c.t1 == 0 || c.t2 == 0 || c.t3 == 0 || c.p1 == 0 || c.p2 == 0 || c.p3 == 0 || c.p4 == 0 || c.p5 == 0 || c.p6 == 0 ||
    c.p7 == 0 || c.p8 == 0 || c.p9 == 0

/-- The advisory of R108: a humidity coefficient is 0. -/
def CoeffSet.humZero (c : CoeffSet Int) : Bool :=
  c.h1 == 0 || c.h2 == 0 || c.h3 == 0 || c.h4 == 0 || c.h5 == 0 || c.h6 == 0

/-- The same function on every coefficient. -/
def CoeffSet.map {α β : Type} (f : α → β) (c : CoeffSet α) : CoeffSet β :=
  { t1 := f c.t1, t2 := f c.t2, t3 := f c.t3, p1 := f c.p1, p2 := f c.p2, p3 := f c.p3, p4 := f c.p4, p5 := f c.p5
    p6 := f c.p6, p7 := f c.p7, p8 := f c.p8, p9 := f c.p9, h1 := f c.h1, h2 := f c.h2, h3 := f c.h3, h4 := f c.h4
    h5 := f c.h5, h6 := f c.h6 }

/-- Coefficient number `k` in the list of R33. -/
def CoeffSet.nth {α : Type} (c : CoeffSet α) (k : Fin 18) : α :=
  match k.val with
  | 0 => c.t1
  | 1 => c.t2
  | 2 => c.t3
  | 3 => c.p1
  | 4 => c.p2
  | 5 => c.p3
  | 6 => c.p4
  | 7 => c.p5
  | 8 => c.p6
  | 9 => c.p7
  | 10 => c.p8
  | 11 => c.p9
  | 12 => c.h1
  | 13 => c.h2
  | 14 => c.h3
  | 15 => c.h4
  | 16 => c.h5
  | _ => c.h6

/-- A 20-bit raw count of the burst (R124): high byte << 12, middle byte << 4, low byte >> 4. -/
def raw20 (hi mid lo : Byte) : BitVec 20 := hi ++ mid ++ lo.extractLsb' 4 4

/-- `unpack_burst` (R124), pressure. -/
def burstP (raw0 raw1 : Word) : BitVec 20 :=
  raw20 (burstByte raw0 raw1 0) (burstByte raw0 raw1 1) (burstByte raw0 raw1 2)

/-- `unpack_burst` (R124), temperature. -/
def burstT (raw0 raw1 : Word) : BitVec 20 :=
  raw20 (burstByte raw0 raw1 3) (burstByte raw0 raw1 4) (burstByte raw0 raw1 5)

/-- `unpack_burst` (R124), humidity. -/
def burstH (raw0 raw1 : Word) : BitVec 16 :=
  burstByte raw0 raw1 6 ++ burstByte raw0 raw1 7

/-- `busy(s)` (R122): bit 3 `measuring` or bit 0 `im_update`. -/
def sensorBusy (st : BitVec 8) : Bool := st.getLsbD 3 || st.getLsbD 0

/-- Forced mode (R29, R246): `MODE[1:0]` is 0b01 or 0b10. -/
def forcedMode (m : BitVec 2) : Bool := m == 0b01 || m == 0b10

end Sys2Proof.Machine
end

