-- ==== Sys2Proof/Machine/RegMap.lean ====
section
/-! DEFINITION. The registers of the port, their offsets and their access (spec/10_state.md R22; spec/20_memory.md R72). -/

namespace Sys2Proof.Machine

/-- A register of R22. -/
inductive Reg where
  | cmd
  | status
  | err
  | features
  | sensorStatus
  | mode
  | bound
  | siteAlt
  | calraw (k : Fin 9)
  | dig (k : Fin 18)
  | raw0
  | raw1
  | adcP
  | adcT
  | adcH
  | tFine
  | tC100
  | tInt
  | tFrac
  | pComp
  | pInt
  | pFrac
  | hQ10
  | hC100
  | hInt
  | hFrac
  | slp
  | avgT
  | avgTInt
  | avgTFrac
  | avgTCnt
  | avgH
  | avgHInt
  | avgHFrac
  | avgHCnt
  | winT (i : Fin 64)
  | winH (i : Fin 64)
deriving DecidableEq, Repr

/-- The "access" column of R22. -/
inductive RegAccess where
  | readOnly
  | writeOnly
  | readWrite
deriving DecidableEq, Repr

/-- The "access" column of R22. -/
def Reg.access (r : Reg) : RegAccess :=
  match r with
  | .cmd => .writeOnly
  | .sensorStatus => .readWrite
  | .mode => .readWrite
  | .calraw _ => .readWrite
  | .raw0 => .readWrite
  | .raw1 => .readWrite
  | .adcP => .readWrite
  | .adcT => .readWrite
  | .adcH => .readWrite
  | _ => .readOnly

/-- The offset column of R22, for `offset(NAME)` of R90. -/
def Reg.offset (r : Reg) : BitVec 10 :=
  match r with
  | .cmd => 0x000
  | .status => 0x004
  | .err => 0x008
  | .features => 0x00C
  | .sensorStatus => 0x010
  | .mode => 0x014
  | .bound => 0x018
  | .siteAlt => 0x01C
  | .calraw k => BitVec.ofNat 10 (0x020 + 4 * k.val)
  | .dig k => BitVec.ofNat 10 (0x050 + 4 * k.val)
  | .raw0 => 0x0A0
  | .raw1 => 0x0A4
  | .adcP => 0x0A8
  | .adcT => 0x0AC
  | .adcH => 0x0B0
  | .tFine => 0x0C0
  | .tC100 => 0x0C4
  | .tInt => 0x0C8
  | .tFrac => 0x0CC
  | .pComp => 0x0D0
  | .pInt => 0x0D4
  | .pFrac => 0x0D8
  | .hQ10 => 0x0DC
  | .hC100 => 0x0E0
  | .hInt => 0x0E4
  | .hFrac => 0x0E8
  | .slp => 0x0EC
  | .avgT => 0x100
  | .avgTInt => 0x104
  | .avgTFrac => 0x108
  | .avgTCnt => 0x10C
  | .avgH => 0x110
  | .avgHInt => 0x114
  | .avgHFrac => 0x118
  | .avgHCnt => 0x11C
  | .winT i => BitVec.ofNat 10 (0x200 + 4 * i.val)
  | .winH i => BitVec.ofNat 10 (0x300 + 4 * i.val)

/-- R72: the registers an engine with parameters `p` maps; the window entries below `AVG_N` of an enabled channel, and every
other register. -/
def Reg.mapped (p : Params) (r : Reg) : Bool :=
  match r with
  | .winT i => p.avgTEn && decide (i.val < p.avgN)
  | .winH i => p.avgHEn && decide (i.val < p.avgN)
  | _ => true

/-- The single registers of R22 by byte offset. -/
def singleReg (off : Nat) : Option Reg :=
  match off with
  | 0x000 => some .cmd
  | 0x004 => some .status
  | 0x008 => some .err
  | 0x00C => some .features
  | 0x010 => some .sensorStatus
  | 0x014 => some .mode
  | 0x018 => some .bound
  | 0x01C => some .siteAlt
  | 0x0A0 => some .raw0
  | 0x0A4 => some .raw1
  | 0x0A8 => some .adcP
  | 0x0AC => some .adcT
  | 0x0B0 => some .adcH
  | 0x0C0 => some .tFine
  | 0x0C4 => some .tC100
  | 0x0C8 => some .tInt
  | 0x0CC => some .tFrac
  | 0x0D0 => some .pComp
  | 0x0D4 => some .pInt
  | 0x0D8 => some .pFrac
  | 0x0DC => some .hQ10
  | 0x0E0 => some .hC100
  | 0x0E4 => some .hInt
  | 0x0E8 => some .hFrac
  | 0x0EC => some .slp
  | 0x100 => some .avgT
  | 0x104 => some .avgTInt
  | 0x108 => some .avgTFrac
  | 0x10C => some .avgTCnt
  | 0x110 => some .avgH
  | 0x114 => some .avgHInt
  | 0x118 => some .avgHFrac
  | 0x11C => some .avgHCnt
  | _ => none

/-- The register at a word-aligned byte offset, whatever the engine's features. -/
def regOfOffset (off : BitVec 10) : Option Reg :=
  let o := off.toNat
  if o % 4 ≠ 0 then none
  else if h : 0x020 ≤ o ∧ o < 0x044 then some (.calraw ⟨(o - 0x020) / 4, by omega⟩)
  else if h : 0x050 ≤ o ∧ o < 0x098 then some (.dig ⟨(o - 0x050) / 4, by omega⟩)
  else if h : 0x200 ≤ o ∧ o < 0x300 then some (.winT ⟨(o - 0x200) / 4, by omega⟩)
  else if h : 0x300 ≤ o ∧ o < 0x400 then some (.winH ⟨(o - 0x300) / 4, by omega⟩)
  else singleReg o

/-- The register mapped at an offset of an engine with parameters `p` (R72). -/
def regAt (p : Params) (off : BitVec 10) : Option Reg :=
  match regOfOffset off with
  | some r => if r.mapped p then some r else none
  | none => none

end Sys2Proof.Machine
end

