-- ==== Sys2Proof/Machine/Ops.lean ====
section
/-! DEFINITION. The named operations over the state that commands and the port share: register reads and stores, the start
and the completion of a command, the configuration gate, the bound checks, the display split and the reset. -/

namespace Sys2Proof.Machine

/-! ### One update per field -/

def State.setPort (s : State) (x : Port) : State := { s with port := x }
def State.setStatus (s : State) (x : Status) : State := { s with status := x }
def State.setErr (s : State) (x : BitVec 2) : State := { s with err := x }
def State.setSensorStatus (s : State) (x : BitVec 8) : State := { s with sensorStatus := x }
def State.setMode (s : State) (x : BitVec 2) : State := { s with mode := x }
def State.setBound (s : State) (x : Bound) : State := { s with bound := x }
def State.setCalraw (s : State) (x : Vector Word 9) : State := { s with calraw := x }
def State.setDig (s : State) (x : CoeffSet Word) : State := { s with dig := x }
def State.setRaw0 (s : State) (x : Word) : State := { s with raw0 := x }
def State.setRaw1 (s : State) (x : Word) : State := { s with raw1 := x }
def State.setAdcP (s : State) (x : BitVec 20) : State := { s with adcP := x }
def State.setAdcT (s : State) (x : BitVec 20) : State := { s with adcT := x }
def State.setAdcH (s : State) (x : BitVec 16) : State := { s with adcH := x }
def State.setTemp (s : State) (x : TempOut) : State := { s with temp := x }
def State.setPress (s : State) (x : PressOut) : State := { s with press := x }
def State.setHum (s : State) (x : HumOut) : State := { s with hum := x }
def State.setSlp (s : State) (x : Word) : State := { s with slp := x }
def State.setAvgT (s : State) (x : AvgChan) : State := { s with avgT := x }
def State.setAvgH (s : State) (x : AvgChan) : State := { s with avgH := x }

/-! ### The register port -/

/-- The 32 bits a register reads as (R61): the stored value with reserved bits 0, 0 for `CMD`, the assembled fields for the
flag registers, the constants for `FEATURES` and `SITE_ALT` (R27, R32). -/
def readReg (s : State) (r : Reg) : Word :=
  match r with
  | .cmd => 0
  | .status => statusWord s.status
  | .err => s.err.setWidth 32
  | .features => featuresWord s.cfg
  | .sensorStatus => s.sensorStatus.setWidth 32
  | .mode => s.mode.setWidth 32
  | .bound => boundWord s.bound
  | .siteAlt => asU s.cfg.altM
  | .calraw k => s.calraw.get k
  | .dig k => s.dig.nth k
  | .raw0 => s.raw0
  | .raw1 => s.raw1
  | .adcP => s.adcP.setWidth 32
  | .adcT => s.adcT.setWidth 32
  | .adcH => s.adcH.setWidth 32
  | .tFine => s.temp.fine
  | .tC100 => s.temp.c100
  | .tInt => s.temp.int
  | .tFrac => fracWord s.temp.frac
  | .pComp => s.press.comp
  | .pInt => s.press.int
  | .pFrac => s.press.frac
  | .hQ10 => s.hum.q10
  | .hC100 => s.hum.c100
  | .hInt => s.hum.int
  | .hFrac => fracWord s.hum.frac
  | .slp => s.slp
  | .avgT => s.avgT.mean
  | .avgTInt => s.avgT.int
  | .avgTFrac => fracWord s.avgT.frac
  | .avgTCnt => s.avgT.cnt
  | .avgH => s.avgH.mean
  | .avgHInt => s.avgH.int
  | .avgHFrac => fracWord s.avgH.frac
  | .avgHCnt => s.avgH.cnt
  | .winT i => s.avgT.win.getD i.val 0
  | .winH i => s.avgH.win.getD i.val 0

/-- A host write to a register other than `CMD` (R62): an `RW` register stores the value without its reserved bits (R76), a
read-only register ignores it. -/
def storeReg (s : State) (r : Reg) (v : Word) : State :=
  match r with
  | .sensorStatus => s.setSensorStatus (v.extractLsb' 0 8)
  | .mode => s.setMode (v.extractLsb' 0 2)
  | .calraw k => s.setCalraw (s.calraw.set k v)
  | .raw0 => s.setRaw0 v
  | .raw1 => s.setRaw1 v
  | .adcP => s.setAdcP (v.extractLsb' 0 20)
  | .adcT => s.setAdcT (v.extractLsb' 0 20)
  | .adcH => s.setAdcH (v.extractLsb' 0 16)
  | _ => s

/-- The register an access reaches, or its access error (R61-R63, R75).
Which of several reasons is named first is the model's choice (assumption 15). -/
def accessReg (p : Params) (off : BitVec 10) (bytes : Nat) : Except Fault Reg :=
  if bytes ≠ 4 then .error .badWidth
  else if off.toNat % 4 ≠ 0 then .error .misaligned
  else
    match regAt p off with
    | some r => .ok r
    | none => .error .unmapped

/-- `MemRead(off, 4)` (R61): the value, or the access error. -/
def memRead (s : State) (off : BitVec 10) (bytes : Nat) : Except Fault Word :=
  match accessReg s.cfg off bytes with
  | .ok r => .ok (readReg s r)
  | .error f => .error f

/-! ### The frame of a command -/

/-- The first line of R88: every word written to `CMD` clears `REARM` (assumption 9). -/
def beginCmd (s : State) : State := s.setStatus { s.status with rearm := false }

/-- `finish(CODE)` and `raise CODE` (R17, R270, R276): the code goes into `STATUS.RESULT` and control goes nowhere. -/
def finish (c : ResultCode) (s : State) : Out := .next (s.setStatus { s.status with result := c })

/-- The effect of an illegal word (R88): `RESULT` = 7, `REARM` = 0, nothing else. -/
def illegalWord (s : State) : Out := finish .illegalCmd (beginCmd s)

/-- The condition on which `gate_config()` raises `CONFIG_ERROR` (R120): `ERR` ≠ 0 or `CAL_VALID` = 0. -/
def gateClosed (s : State) : Bool := s.err != 0 || !s.status.calValid

/-- `S.DIVZ <- b`. -/
def setDivz (b : Bool) (s : State) : State := s.setStatus { s.status with divz := b }

/-- `S.TV <- b`. -/
def setTv (b : Bool) (s : State) : State := s.setStatus { s.status with tv := b }

/-- `S.PV <- b`. -/
def setPv (b : Bool) (s : State) : State := s.setStatus { s.status with pv := b }

/-- `S.HV <- b`. -/
def setHv (b : Bool) (s : State) : State := s.setStatus { s.status with hv := b }

/-- `S.REARM <- b`. -/
def setRearm (b : Bool) (s : State) : State := s.setStatus { s.status with rearm := b }

/-! ### Bounds -/

/-- `check(T)` (R128). -/
def checkT (s : State) : State :=
  s.setBound { s.bound with t := checkPair s.cfg.boundPolicy s.adcT.toNat s.cfg.tMin.toNat s.cfg.tMax.toNat }

/-- `check(P)` (R128). -/
def checkP (s : State) : State :=
  s.setBound { s.bound with p := checkPair s.cfg.boundPolicy s.adcP.toNat s.cfg.pMin.toNat s.cfg.pMax.toNat }

/-- `check(H)` (R128): "in the reduced variant it writes 0b00". -/
def checkH (s : State) : State :=
  s.setBound
    { s.bound with
      h :=
        if s.cfg.hasH then checkPair s.cfg.boundPolicy s.adcH.toNat s.cfg.hMin.toNat s.cfg.hMax.toNat
        else ⟨false, false⟩ }

/-- `check_all()` (R128). -/
def checkAll (s : State) : State := checkH (checkP (checkT s))

/-! ### The display split -/

/-- `SPLIT_DEFAULT(V)` (R141). -/
def splitDefault (v : Int) : Int × Frac :=
  let i := quot v 100
  let d := if i.natAbs > 9 then 100 else 10
  (i, { digits := BitVec.ofNat 8 (v.natAbs % d), neg := decide (v < 0) })

/-- `SPLIT_RULE` (R9, R141). -/
def split (r : SplitRule) (v : Int) : Int × Frac :=
  match r with
  | .default => splitDefault v
  | .custom id => Config.customSplit id v

/-! ### Reset -/

/-- `apply_reset()` (R301): the state after power-on; the host's accesses are not the engine's and stay (assumption 17). -/
def applyReset (s : State) : State := (State.powerOn s.cfg).setPort s.port

/-- Building an engine (R10): an illegal parameter record is refused. -/
def buildEngine (p : Params) : Out :=
  if p.legal then .next (State.powerOn p) else .refused .illegalParameters

end Sys2Proof.Machine
end

