-- ==== Sys2Proof/Machine/Calibration.lean ====
section
/-! DEFINITION. `CAL_LATCH` (spec/40_calibration.md section 2). -/

namespace Sys2Proof.Machine

/-- The failing half of R104: `ERR.calib_reg` is set, `CAL_VALID` cleared, the coefficients keep their values (R106). -/
def rejectCal (s : State) : State :=
  (s.setErr (s.err ||| 0b01)).setStatus { s.status with calValid := false }

/-- The successful half of R104: the coefficient registers are written and the results of the earlier set are no longer
valid (R111); `ERR` and the windows stay (R107, R111). -/
def acceptCal (c : CoeffSet Int) (s : State) : State :=
  (s.setDig (c.map asU)).setStatus
    { s.status with calValid := true, hcz := s.cfg.hasH && c.humZero, tv := false, pv := false, hv := false }

/-- `CAL_LATCH` (R104). -/
def execCalLatch (s₀ : State) : Out :=
  let s := beginCmd s₀
  let c := unpackCal s.cfg.hasH s.calraw
  if c.tpZero then finish .calInvalid (rejectCal s) else finish .ok (acceptCal c s)

end Sys2Proof.Machine
end

