-- ==== Sys2Proof/Machine/Control.lean ====
section
/-! DEFINITION. The housekeeping commands `NOP`, `SRESET`, `ERR_CLR`, `ERR_SET` (spec/47_control.md section 1). -/

namespace Sys2Proof.Machine

/-- `NOP` (R240). -/
def execNop (s : State) : Out := finish .ok (beginCmd s)

/-- `SRESET` (R241). -/
def execSreset (s : State) : Out := finish .ok (applyReset (beginCmd s))

/-- `ERR_CLR` (R242). -/
def execErrClr (s : State) : Out := finish .ok ((beginCmd s).setErr 0)

/-- `ERR_SET m` (R243): a kind already recorded is ORed, not overwritten (R30). -/
def execErrSet (m : BitVec 2) (s : State) : Out := finish .ok ((beginCmd s).setErr (s.err ||| m))

end Sys2Proof.Machine
end

