-- ==== Sys2Proof/Machine/Acquisition.lean ====
section
/-! DEFINITION. `CHK_BUSY`, `UNPACK`, `CHK_BOUNDS` (spec/41_acquisition.md). -/

namespace Sys2Proof.Machine

/-- `CHK_BUSY` (R121), legal only when `BUSY_CHECK` (R86). -/
def execChkBusy (s₀ : State) : Out :=
  if !s₀.cfg.busyCheck then illegalWord s₀
  else
    let s := beginCmd s₀
    if gateClosed s then finish .configError s
    else if sensorBusy s.sensorStatus then finish .sensorBusy s
    else finish .ok s

/-- The writes of `UNPACK` (R123): the raw counts of the burst; `ADC_H` only in the extended variant. -/
def writeAdc (s : State) : State :=
  let s₁ := (s.setAdcP (burstP s.raw0 s.raw1)).setAdcT (burstT s.raw0 s.raw1)
  if s.cfg.hasH then s₁.setAdcH (burstH s.raw0 s.raw1) else s₁

/-- `UNPACK` (R123). -/
def execUnpack (s₀ : State) : Out :=
  let s := beginCmd s₀
  if gateClosed s then finish .configError s else finish .ok (writeAdc s)

/-- `CHK_BOUNDS` (R129). -/
def execChkBounds (s₀ : State) : Out :=
  let s := beginCmd s₀
  if gateClosed s then finish .configError s
  else
    let s := checkAll s
    if s.bound.any then finish .outOfRange s else finish .ok s

end Sys2Proof.Machine
end

