-- ==== Sys2Proof/Machine/Averaging.lean ====
section
/-! DEFINITION. `AVG_T`, `AVG_H`, `AVG_CLR` and the push that `MEASURE` shares (spec/46_averaging.md). -/

namespace Sys2Proof.Machine

/-- The window part of `push` (R221): append while filling, shift once full. -/
def appendSample (n : Nat) (x : Word) (c : AvgChan) : AvgChan :=
  if c.cnt.toNat < n then { c with win := c.win.set c.cnt.toNat x, cnt := c.cnt + 1 }
  else { c with win := c.win.drop 1 ++ [x] }

/-- The mean of the populated entries (R222): an exact sum, divided truncating toward zero. -/
def windowMean (c : AvgChan) : Int :=
  quot ((c.win.take c.cnt.toNat).map asS).sum c.cnt.toNat

/-- `update_mean` (R222). -/
def updateMean (r : SplitRule) (c : AvgChan) : AvgChan :=
  let m := windowMean c
  { c with mean := asU m, int := asU (split r m).1, frac := (split r m).2 }

/-- `push(c, s)` (R221, R222) on a channel of an engine with parameters `p`. -/
def pushSample (p : Params) (x : Word) (c : AvgChan) : AvgChan :=
  updateMean p.splitRule (appendSample p.avgN x c)

/-- Emptying a channel (R226). -/
def clearChan (c : AvgChan) : AvgChan := AvgChan.empty c.win.length

/-- `AVG_T` (R224), legal only when `AVG_T_EN` (R86). -/
def execAvgT (s₀ : State) : Out :=
  if !s₀.cfg.avgTEn then illegalWord s₀
  else
    let s := beginCmd s₀
    if gateClosed s then finish .configError s
    else if !s.status.tv then finish .sequenceError s
    else finish .ok (s.setAvgT (pushSample s.cfg s.temp.c100 s.avgT))

/-- `AVG_H` (R225), legal only when `AVG_H_EN` (R86). -/
def execAvgH (s₀ : State) : Out :=
  if !s₀.cfg.avgHEn then illegalWord s₀
  else
    let s := beginCmd s₀
    if gateClosed s then finish .configError s
    else if !s.status.hv then finish .sequenceError s
    else finish .ok (s.setAvgH (pushSample s.cfg s.hum.c100 s.avgH))

/-- `AVG_CLR` (R226), legal only when a channel is enabled (R86); not gated. -/
def execAvgClr (s₀ : State) : Out :=
  if !(s₀.cfg.avgTEn || s₀.cfg.avgHEn) then illegalWord s₀
  else
    let s := beginCmd s₀
    finish .ok ((s.setAvgT (clearChan s.avgT)).setAvgH (clearChan s.avgH))

end Sys2Proof.Machine
end

