-- ==== Sys2Proof/Machine/Humidity.lean ====
section
/-! DEFINITION. `COMP_H` (spec/44_humidity.md). -/

namespace Sys2Proof.Machine

/-- The multi-term formula before the clamp (R181). -/
def humRaw (cal : CoeffSet Word) (adcH : BitVec 16) (tFine : Word) : Word :=
  let adc : Word := adcH.setWidth 32
  let x := tFine - 76800
  let a := sra ((adc <<< 14) - (cal.h4 <<< 20) - (cal.h5 * x) + 16384) 15
  let b :=
    sra ((sra (sra (x * cal.h6) 10 * (sra (x * cal.h3) 11 + 32768)) 10 + 2097152) * cal.h2 + 8192) 14
  let x := a * b
  x - sra (sra (sra x 15 * sra x 15) 7 * cal.h1) 4

/-- The clamp and the shift of R182, then the percentage clamp of R183. -/
def humQ10 (x : Word) : Word := asU (min (asS (sra (clampS x 0 419430400) 12)) 102400)

/-- The rescale to hundredths (R183), exact and truncating. -/
def humC100 (hq : Word) : Int := floorShift (asS hq * 100) 10

/-- `compH` (R181-R183). -/
def compH (cal : CoeffSet Word) (adcH : BitVec 16) (tFine : Word) : Word × Int :=
  let hq := humQ10 (humRaw cal adcH tFine)
  (hq, humC100 hq)

/-- What `write_h` puts into the four humidity registers (R184). -/
def humOut (r : SplitRule) (hq : Word) (hc : Int) : HumOut :=
  { q10 := hq, c100 := asU hc, int := asU (split r hc).1, frac := (split r hc).2 }

/-- `write_h(hq, hc)` (R184): one commit. -/
def writeH (x : Word × Int) (s : State) : State := s.setHum (humOut s.cfg.splitRule x.1 x.2)

/-- `COMP_H` (R180), legal only when `HAS_H` (R86). -/
def execCompH (s₀ : State) : Out :=
  if !s₀.cfg.hasH then illegalWord s₀
  else
    let s := beginCmd s₀
    if gateClosed s then finish .configError s
    else if !s.status.tv then finish .sequenceError s
    else
      let s := checkH s
      if s.bound.h.any then finish .outOfRange s
      else finish .ok (setHv true (writeH (compH s.dig s.adcH s.temp.fine) s))

end Sys2Proof.Machine
end

