-- ==== Sys2Proof/Machine/Pressure.lean ====
section
/-! DEFINITION. `COMP_P` (spec/43_pressure.md). -/

namespace Sys2Proof.Machine

/-- The two fine-temperature terms at the end of R161: the final `v1` and `v2`. -/
def pressTerms (cal : CoeffSet Word) (tFine : Word) : Word × Word :=
  let v1 := sra tFine 1 - 64000
  let q := sra v1 2
  let v2 := sra (q * q) 11 * cal.p6
  let v2 := v2 + ((v1 * cal.p5) <<< 1)
  let v2 := sra v2 2 + (cal.p4 <<< 16)
  let v1 := sra (sra (cal.p3 * sra (q * q) 13) 3 + sra (cal.p2 * v1) 1) 18
  (v1, v2)

/-- The denominator (R162). -/
def pressDen (cal : CoeffSet Word) (v1 : Word) : Word := sra ((32768 + v1) * cal.p1) 15

/-- The unsigned quotient with the 2^31 branch (R164). -/
def pressQuotient (adcP : BitVec 20) (v2 den : Word) : Word :=
  let p : Word := ((1048576 - adcP.setWidth 32) - sra v2 12) * 3125
  if p < 0x80000000 then (p <<< 1) / den else (p / den) * 2

/-- The two correction terms (R165). -/
def pressCorrect (cal : CoeffSet Word) (p : Word) : Word :=
  let w1 := sra (cal.p9 * (((p >>> 3) * (p >>> 3)) >>> 13)) 12
  let w2 := sra ((p >>> 2) * cal.p8) 13
  p + sra (w1 + w2 + cal.p7) 4

/-- `compP` (R161-R165): the pressure, or none for `DIVZ` (R163). -/
def compP (cal : CoeffSet Word) (adcP : BitVec 20) (tFine : Word) : Option Word :=
  let v := pressTerms cal tFine
  let den := pressDen cal v.1
  if den == 0 then none else some (pressCorrect cal (pressQuotient adcP v.2 den))

/-- What `write_p` puts into the three pressure registers (R167). -/
def pressOut (pCenti : Bool) (p : Word) : PressOut :=
  { comp := p, int := p / 100, frac := if pCenti then p % 100 else 0 }

/-- `write_p(p)` (R167): one commit (R46). -/
def writeP (p : Word) (s : State) : State := s.setPress (pressOut s.cfg.pCenti p)

/-- `COMP_P` (R160). -/
def execCompP (s₀ : State) : Out :=
  let s := beginCmd s₀
  if gateClosed s then finish .configError s
  else if !s.status.tv then finish .sequenceError s
  else
    let s := checkP s
    if s.bound.p.any then finish .outOfRange s
    else
      match compP s.dig s.adcP s.temp.fine with
      | none => finish .divByZero (setDivz true s)
      | some p => finish .ok (setPv true (writeP p (setDivz false s)))

end Sys2Proof.Machine
end

