-- ==== Sys2Proof/Machine/Sealevel.lean ====
section
/-! DEFINITION. `SEALEVEL` (spec/45_sealevel.md). -/

namespace Sys2Proof.Machine

/-- `baro_k` (R201). -/
def baroK (tc h : Int) : Int := quot (h * 223894) (max (tc + 27315) 1)

/-- `SEALEVEL_DEFAULT` (R202-R205), on exact integers. -/
def sealevelDefault (p t h : Int) : Int :=
  let k1 := baroK t h
  let p0a := p + floorShift (p * k1) 16
  let pm := floorShift (p + p0a) 1
  let tm := t + quot (13 * h) 40
  let k2 := baroK tm h
  let p0 := p + floorShift (pm * k2) 16
  clampInt p0 0 (2 ^ 32 - 1)

/-- `SEALEVEL_FN` (R9, R206) of an engine's parameters, on the station pressure (u32) and temperature (s32). -/
def sealevelFn (c : Params) (p t : Word) : Word :=
  match c.sealevelFn with
  | .default => asU (sealevelDefault p.toNat (asS t) c.altM)
  | .custom id => Config.customSealevel id p (asS t) c.altM

/-- `SEALEVEL` (R200), legal only when `SEALEVEL_EN` (R86). -/
def execSealevel (s₀ : State) : Out :=
  if !s₀.cfg.sealevelEn then illegalWord s₀
  else
    let s := beginCmd s₀
    if gateClosed s then finish .configError s
    else if !s.status.tv || !s.status.pv then finish .sequenceError s
    else finish .ok (s.setSlp (sealevelFn s.cfg s.press.comp s.temp.c100))

end Sys2Proof.Machine
end

