-- ==== Sys2Proof/Machine/Temperature.lean ====
section
/-! DEFINITION. `COMP_T` (spec/42_temperature.md). -/

namespace Sys2Proof.Machine

/-- `compT` (R142-R144): the fine temperature and the reported temperature. -/
def compT (hasH : Bool) (cal : CoeffSet Word) (adcT : BitVec 20) : Word × Word :=
  let adc : Word := adcT.setWidth 32
  let var1 := sra ((sra adc 3 - (cal.t1 <<< 1)) * cal.t2) 11
  let d := sra adc 4 - cal.t1
  let var2 := sra (sra (d * d) 12 * cal.t3) 14
  let tFine := var1 + var2
  let t := sra (tFine * 5 + 128) 8
  (tFine, if hasH then clampS t (-4000) 8500 else t)

/-- What `write_t` puts into the four temperature registers (R145). -/
def tempOut (r : SplitRule) (tFine t : Word) : TempOut :=
  { fine := tFine, c100 := t, int := asU (split r (asS t)).1, frac := (split r (asS t)).2 }

/-- `write_t(tf, T)` (R145): the four writes are one commit. -/
def writeT (x : Word × Word) (s : State) : State := s.setTemp (tempOut s.cfg.splitRule x.1 x.2)

/-- `COMP_T` (R140). -/
def execCompT (s₀ : State) : Out :=
  let s := beginCmd s₀
  if gateClosed s then finish .configError s
  else
    let s := checkT s
    if s.bound.t.any then finish .outOfRange s
    else finish .ok (setTv true (writeT (compT s.cfg.hasH s.dig s.adcT) s))

end Sys2Proof.Machine
end

