-- ==== Sys2Proof/Machine/Measure.lean ====
section
/-! DEFINITION. `MEASURE`, the whole measurement cycle as one command (spec/47_control.md section 2). -/

namespace Sys2Proof.Machine

/-- What steps 5 to 8 of R244 compute into temporaries before anything is committed (R245). -/
structure CycleResult where
  temp : Word × Word
  press : Word
  hum : Word × Int
  slp : Word
deriving DecidableEq, Repr

/-- Steps 5 to 8 of R244 with a pressure that passed the denominator's guard. -/
def cycleResult (s : State) (p : Word) : CycleResult :=
  let t := compT s.cfg.hasH s.dig s.adcT
  { temp := t, press := p, hum := compH s.dig s.adcH t.1, slp := sealevelFn s.cfg p t.2 }

/-- The commit of R244, R245: the outputs and their valid flags. -/
def commitOutputs (x : CycleResult) (s : State) : State :=
  let s := setTv true (writeT x.temp s)
  let s := setPv true (writeP x.press s)
  let s := if s.cfg.hasH then setHv true (writeH x.hum s) else s
  if s.cfg.sealevelEn then s.setSlp x.slp else s

/-- Step 9 of R244: the pushes of the enabled channels (R228). -/
def commitWindows (x : CycleResult) (s : State) : State :=
  let s := if s.cfg.avgTEn then s.setAvgT (pushSample s.cfg x.temp.2 s.avgT) else s
  if s.cfg.avgHEn then s.setAvgH (pushSample s.cfg (asU x.hum.2) s.avgH) else s

/-- `MEASURE` (R244), with the re-arm request of R246. -/
def execMeasure (s₀ : State) : Out :=
  let s := beginCmd s₀
  if gateClosed s then finish .configError s
  else if s.cfg.busyCheck && sensorBusy s.sensorStatus then finish .sensorBusy s
  else
    let s := checkAll (writeAdc s)
    if s.bound.any then finish .outOfRange s
    else
      match compP s.dig s.adcP (compT s.cfg.hasH s.dig s.adcT).1 with
      | none => finish .divByZero (setDivz true s)
      | some p =>
        let s := setDivz false s
        let x := cycleResult s p
        finish .ok (setRearm (forcedMode s.mode) (commitWindows x (commitOutputs x s)))

end Sys2Proof.Machine
end

