-- ==== Sys2Proof/Machine/Dispatch.lean ====
section
/-! DEFINITION. One arm per command (spec/30_encoding.md R82, R88). -/

namespace Sys2Proof.Machine

def exec (i : Instr) (s : State) : Host.Outcome State Fault Refusal :=
  match i with
  | .nop => Sys2Proof.Machine.execNop s
  | .sreset => Sys2Proof.Machine.execSreset s
  | .errClr => Sys2Proof.Machine.execErrClr s
  | .errSet m => Sys2Proof.Machine.execErrSet m s
  | .calLatch => Sys2Proof.Machine.execCalLatch s
  | .chkBusy => Sys2Proof.Machine.execChkBusy s
  | .unpack => Sys2Proof.Machine.execUnpack s
  | .chkBounds => Sys2Proof.Machine.execChkBounds s
  | .compT => Sys2Proof.Machine.execCompT s
  | .compP => Sys2Proof.Machine.execCompP s
  | .compH => Sys2Proof.Machine.execCompH s
  | .sealevel => Sys2Proof.Machine.execSealevel s
  | .avgT => Sys2Proof.Machine.execAvgT s
  | .avgH => Sys2Proof.Machine.execAvgH s
  | .avgClr => Sys2Proof.Machine.execAvgClr s
  | .measure => Sys2Proof.Machine.execMeasure s

end Sys2Proof.Machine
end

