-- ==== Sys2Proof/Machine/Serve.lean ====
section
/-! DEFINITION. Serving a host access on the register port, a write to `CMD` among them (spec/20_memory.md R61-R63;
spec/30_encoding.md R80, R88). -/

namespace Sys2Proof.Machine

/-- A word written to `CMD` (R80, R88): the command of a legal word runs to completion; an illegal word only reports. -/
def runCommand (w : Word) (s : State) : Out :=
  match decode s.cfg w with
  | .ok i => exec i s
  | .error _ => illegalWord s

/-- A write that reaches register `r` (R62). -/
def writeReg (s : State) (r : Reg) (v : Word) : Out :=
  match r with
  | .cmd => runCommand v s
  | _ => .next (storeReg s r v)

/-- `MemWrite(off, bytes, v)` (R62). -/
def memWrite (s : State) (off : BitVec 10) (bytes : Nat) (v : Word) : Out :=
  match accessReg s.cfg off bytes with
  | .ok r => writeReg s r v
  | .error f => .fault f

/-- The value a read access returned, kept for the host (assumption 3). -/
def returnData (s : State) (v : Word) : State := s.setPort { s.port with readData := some v }

/-- One host access (R61, R62); an access error faults the run (R75). -/
def serve (a : Access) (s : State) : Out :=
  match a with
  | .read off bytes =>
    match memRead s off bytes with
    | .ok v => .next (returnData s v)
    | .error f => .fault f
  | .write off bytes v => memWrite s off bytes v

/-- The write of a command word to `CMD` (R80). -/
def cmdWrite (w : Word) : Access := .write 0x000 4 w

/-- The command word of an instruction whose low `nbits` bits are those of `w` and whose other bits are 0 (assumption 18). -/
def tableWord (nbits w : Nat) : Word := BitVec.ofNat 32 (w % 2 ^ nbits)

end Sys2Proof.Machine
end

