-- ==== Sys2Proof/Machine/Step.lean ====
section
/-! DEFINITION. One step of the machine: the oldest pending host access (assumption 2; spec/20_memory.md R68). -/

namespace Sys2Proof.Machine

/-- One step: the engine serves the oldest pending access (R68), or is idle when the host has issued none (R288, R302,
R312). -/
def step (s : State) : Host.Outcome State Fault Refusal :=
  match s.port.pending with
  | [] => .next s
  | a :: rest => serve a (s.setPort { s.port with pending := rest })

/-- The state whose next access is the write of that command word to `CMD`, before the accesses already pending
(assumptions 2 and 18). -/
def State.withFetchWord (s : State) (nbits w : Nat) : State :=
  s.setPort { s.port with pending := cmdWrite (tableWord nbits w) :: s.port.pending }

end Sys2Proof.Machine
end

