-- ==== Sys2Proof/Machine/Instances.lean ====
section
/-! DEFINITION. Several engines, one per sensor (spec/20_memory.md R77; spec/60_exceptions.md R286; assumptions 14, 21). -/

namespace Sys2Proof.Machine

/-- One step of engine `k` of several: "an access to one never affects another" (R77).
With no engine `k` nothing happens.
DESIGN CHOICE (assumption 21): R75 faults "the host program" and does not say whether one program spans several engines; here an
access error of engine `k` faults the joint step, so it ends the run of every engine. -/
def stepInstance (k : Nat) (es : List State) : Host.Outcome (List State) Fault Refusal :=
  match es[k]? with
  | none => .next es
  | some s =>
    match step s with
    | .next s' => .next (es.set k s')
    | .fault f => .fault f
    | .refused r => .refused r

end Sys2Proof.Machine
end

