-- ==== Sys2Proof/Machine/Assembler.lean ====
section
/-! DEFINITION. The lines of a host program and the port accesses they stand for (spec/30_encoding.md R90, R91).
This is the host's notation, not part of the engine; a program runs when its accesses are pending (assumptions 2, 19). -/

namespace Sys2Proof.Machine

/-- A line of a host program (R90, R91). -/
inductive AsmLine where
  /-- `wr NAME, imm32` -/
  | wr (r : Reg) (v : Word)
  /-- `wr off, imm32`, with a hexadecimal offset -/
  | wrAt (off : BitVec 10) (v : Word)
  /-- `rd NAME` -/
  | rd (r : Reg)
  /-- `rd off`, with a hexadecimal offset -/
  | rdAt (off : BitVec 10)
  /-- a command mnemonic; `ERR_SET m` carries its mask -/
  | cmd (i : Instr)
  /-- `LOADCAL b0, …, b32` -/
  | loadCal (b : List Byte)
  /-- `LOADRAW b0, …, b7` -/
  | loadRaw (b : List Byte)
  /-- `SETADC t, p, h` -/
  | setAdc (t p h : Word)
  /-- `CONFIG_OK` -/
  | configOk
deriving DecidableEq, Repr

/-- `b[4k] | b[4k+1] << 8 | b[4k+2] << 16 | b[4k+3] << 24` (R91); missing bytes are 0. -/
def packWord (b : List Byte) (k : Nat) : Word :=
  b.getD (4 * k + 3) 0 ++ b.getD (4 * k + 2) 0 ++ b.getD (4 * k + 1) 0 ++ b.getD (4 * k) 0

/-- `MemWrite(offset(NAME), 4, v)`. -/
def wrReg (r : Reg) (v : Word) : Access := .write r.offset 4 v

/-- The accesses of a line (R90, R91). -/
def AsmLine.expand (l : AsmLine) : List Access :=
  match l with
  | .wr r v => [wrReg r v]
  | .wrAt off v => [.write off 4 v]
  | .rd r => [.read r.offset 4]
  | .rdAt off => [.read off 4]
  | .cmd i => [wrReg .cmd (encode i)]
  | .loadCal b => (List.finRange 9).map (fun k => wrReg (.calraw k) (packWord b k.val)) ++ [wrReg .cmd (encode .calLatch)]
  | .loadRaw b => [wrReg .raw0 (packWord b 0), wrReg .raw1 (packWord b 1)]
  | .setAdc t p h => [wrReg .adcT t, wrReg .adcP p, wrReg .adcH h]
  | .configOk => [wrReg .cmd (encode .errClr)]

/-- The state with a host program's accesses pending after those already there. -/
def withProgram (s : State) (prog : List AsmLine) : State :=
  s.setPort { s.port with pending := s.port.pending ++ prog.flatMap AsmLine.expand }

end Sys2Proof.Machine
end

