-- ==== Sys2Proof/Safety/Exact.lean ====
section
/-! DEFINITION. The spec's arithmetic written over exact integers, as spec/00_scope.md R13-R15 define it: the terms in which
claims say what a command computes, apart from the machine's own word arithmetic. -/

namespace Sys2Proof.Exact

/-- `wrap_s` (R13). -/
def wrapS (v : Int) : Int := (v + 2 ^ 31) % 2 ^ 32 - 2 ^ 31

/-- `wrap_u` (R13). -/
def wrapU (v : Int) : Int := v % 2 ^ 32

/-! The operators of R14: exact, then wrapped. -/

def addS (a b : Int) : Int := wrapS (a + b)
def subS (a b : Int) : Int := wrapS (a - b)
def mulS (a b : Int) : Int := wrapS (a * b)
def shlS (a : Int) (n : Nat) : Int := wrapS (a * 2 ^ n)
def subU (a b : Int) : Int := wrapU (a - b)
def mulU (a b : Int) : Int := wrapU (a * b)
def shlU (a : Int) (n : Nat) : Int := wrapU (a * 2 ^ n)

/-- floor(a / 2^n): `>>a`, `>>l` and the exact `>>` of R14 and R15. -/
def shr (a : Int) (n : Nat) : Int := a / 2 ^ n

/-- `clamp(v, lo, hi)` (R15). -/
def clamp (v lo hi : Int) : Int := min (max v lo) hi

/-- An `n`-bit number read as two's complement (R15). -/
def signed (n v : Nat) : Int := if v < 2 ^ (n - 1) then v else (v : Int) - 2 ^ n

/-- Bits [8(j mod 4)+7 : 8(j mod 4)] of the word (R64). -/
def byteOf (w : Word) (j : Nat) : Nat := w.toNat / 2 ^ (8 * (j % 4)) % 256

/-! ### Calibration (spec/40_calibration.md R101-R103) -/

/-- `cb[j]` (R34). -/
def cb (img : Vector Word 9) (j : Nat) : Nat := byteOf (img.toList.getD (j / 4) 0) j

/-- `le16(j)` (R101). -/
def le16 (img : Vector Word 9) (j : Nat) : Nat := cb img j + 256 * cb img (j + 1)

/-- The table of R101 with R102 and, in the reduced variant, R103. -/
def coefficients (hasH : Bool) (img : Vector Word 9) : Machine.CoeffSet Int :=
  let ext (v : Int) : Int := if hasH = true then v else 0
  { t1 := le16 img 0
    t2 := signed 16 (le16 img 2)
    t3 := signed 16 (le16 img 4)
    p1 := le16 img 6
    p2 := signed 16 (le16 img 8)
    p3 := signed 16 (le16 img 10)
    p4 := signed 16 (le16 img 12)
    p5 := signed 16 (le16 img 14)
    p6 := signed 16 (le16 img 16)
    p7 := signed 16 (le16 img 18)
    p8 := signed 16 (le16 img 20)
    p9 := signed 16 (le16 img 22)
    h1 := ext (cb img 25)
    h2 := ext (signed 16 (le16 img 26))
    h3 := ext (cb img 28)
    h4 := ext (signed 12 (cb img 29 * 16 + cb img 30 % 16))
    h5 := ext (signed 12 (cb img 31 * 16 + cb img 30 / 16))
    h6 := ext (signed 8 (cb img 32)) }

/-- The twelve coefficients of the zero check (R105). -/
def tpList {α : Type} (c : Machine.CoeffSet α) : List α :=
  [c.t1, c.t2, c.t3, c.p1, c.p2, c.p3, c.p4, c.p5, c.p6, c.p7, c.p8, c.p9]

/-- The six humidity coefficients (R108). -/
def humList {α : Type} (c : Machine.CoeffSet α) : List α := [c.h1, c.h2, c.h3, c.h4, c.h5, c.h6]

/-! ### Burst and bounds (spec/41_acquisition.md R124, R126-R128) -/

/-- `bb[j]` (R35). -/
def bb (raw0 raw1 : Word) (j : Nat) : Nat := byteOf (if j < 4 then raw0 else raw1) j

/-- A 20-bit raw count whose first byte is `bb[j]` (R124). -/
def raw20 (raw0 raw1 : Word) (j : Nat) : Nat :=
  bb raw0 raw1 j * 2 ^ 12 + bb raw0 raw1 (j + 1) * 2 ^ 4 + bb raw0 raw1 (j + 2) / 2 ^ 4

/-- The 16-bit raw count (R124). -/
def raw16 (raw0 raw1 : Word) : Nat := bb raw0 raw1 6 * 2 ^ 8 + bb raw0 raw1 7

/-- The pair of flags of R126 or R127. -/
def pair (pol : BoundPolicy) (v lo hi : Nat) : Machine.BoundPair :=
  { low := decide (pol = .atOrBeyond ∧ v ≤ lo)
    high := decide ((pol = .atOrBeyond ∧ v ≥ hi) ∨ (pol = .eqMax ∧ v = hi)) }

/-! ### Temperature (spec/42_temperature.md R142-R144) -/

/-- `t_fine` (R142). -/
def tFine (c : Machine.CoeffSet Word) (adc : Int) : Int :=
  let t1 := asS c.t1
  let var1 := shr (mulS (subS (shr adc 3) (shlS t1 1)) (asS c.t2)) 11
  let d := subS (shr adc 4) t1
  let var2 := shr (mulS (shr (mulS d d) 12) (asS c.t3)) 14
  addS var1 var2

/-- The reported temperature (R142-R144). -/
def tC100 (hasH : Bool) (tf : Int) : Int :=
  let t := shr (addS (mulS tf 5) 128) 8
  if hasH = true then clamp t (-4000) 8500 else t

/-! ### Pressure (spec/43_pressure.md R161-R165) -/

/-- The pressure, or none for a zero denominator (R161-R165). -/
def pressure (c : Machine.CoeffSet Word) (adc tf : Int) : Option Int :=
  let v := subS (shr tf 1) 64000
  let q := shr v 2
  let v2 := mulS (shr (mulS q q) 11) (asS c.p6)
  let v2 := addS v2 (shlS (mulS v (asS c.p5)) 1)
  let v2 := addS (shr v2 2) (shlS (asS c.p4) 16)
  let v1 := shr (addS (shr (mulS (asS c.p3) (shr (mulS q q) 13)) 3) (shr (mulS (asS c.p2) v) 1)) 18
  let den := shr (mulS (addS 32768 v1) (asS c.p1)) 15
  if den = 0 then none
  else
    let p := mulU (subU (wrapU (subS 1048576 adc)) (wrapU (shr v2 12))) 3125
    let p := if p < 0x80000000 then shlU p 1 / wrapU den else mulU (p / wrapU den) 2
    let w1 := shr (mulS (asS c.p9) (wrapS (shr (mulU (shr p 3) (shr p 3)) 13))) 12
    let w2 := shr (mulS (wrapS (shr p 2)) (asS c.p8)) 13
    some (wrapU (addS (wrapS p) (shr (addS (addS w1 w2) (asS c.p7)) 4)))

/-! ### Humidity (spec/44_humidity.md R181-R183) -/

/-- `x` before the clamp (R181). -/
def humX (c : Machine.CoeffSet Word) (adc tf : Int) : Int :=
  let x := subS tf 76800
  let a := shr (addS (subS (subS (shlS adc 14) (shlS (asS c.h4) 20)) (mulS (asS c.h5) x)) 16384) 15
  let b1 := mulS (shr (mulS x (asS c.h6)) 10) (addS (shr (mulS x (asS c.h3)) 11) 32768)
  let b := shr (addS (mulS (addS (shr b1 10) 2097152) (asS c.h2)) 8192) 14
  let y := mulS a b
  subS y (shr (mulS (shr (mulS (shr y 15) (shr y 15)) 7) (asS c.h1)) 4)

/-- `hq` (R182, R183). -/
def humQ (c : Machine.CoeffSet Word) (adc tf : Int) : Int :=
  min (shr (clamp (humX c adc tf) 0 419430400) 12) 102400

/-- `hc` (R183). -/
def humC (hq : Int) : Int := shr (hq * 100) 10

/-! ### Sea level (spec/45_sealevel.md R201-R205) -/

/-- `baro_k` (R201). -/
def baroK (tc h : Int) : Int := (h * 223894).tdiv (max (tc + 27315) 1)

/-- `SEALEVEL_DEFAULT` (R202-R205). -/
def sealevel (p t h : Int) : Int :=
  let p0a := p + shr (p * baroK t h) 16
  let pm := shr (p + p0a) 1
  let tm := t + (13 * h).tdiv 40
  clamp (p + shr (pm * baroK tm h) 16) 0 (2 ^ 32 - 1)

/-- `SEALEVEL_FN` of an engine's parameters (R206) as a word. -/
def slp (p : Params) (pc : Word) (tc : Int) : Word :=
  match p.sealevelFn with
  | .default => asU (sealevel pc.toNat tc p.altM)
  | .custom id => Config.customSealevel id pc tc p.altM

end Sys2Proof.Exact
end

