-- ==== Sys2Proof/Safety.lean ====
section
/-! DEFINITION. The terms claims are written in: the state a completed command reports, what counts as an output, the
invariant of the engine, runs of commands and of accesses. -/

namespace Sys2Proof.Machine

/-- `s` after a command that changes nothing but its report: `RESULT` = `c`, `REARM` = 0 (spec/60_exceptions.md R276). -/
def State.reported (s : State) (c : ResultCode) : State :=
  { s with status := { s.status with result := c, rearm := false } }

/-- The configuration gate is closed (R120). -/
abbrev State.Blocked (s : State) : Prop := s.err ≠ 0 ∨ s.status.calValid = false

/-- The output registers of R45: `T_*`, `P_*`, `H_*`, `SLP`, `AVG_*`, `WIN_*`. -/
structure Outputs where
  temp : TempOut
  press : PressOut
  hum : HumOut
  slp : Word
  avgT : AvgChan
  avgH : AvgChan
deriving DecidableEq, Repr

/-- The outputs of a state. -/
def State.outputs (s : State) : Outputs :=
  { temp := s.temp, press := s.press, hum := s.hum, slp := s.slp, avgT := s.avgT, avgH := s.avgH }

/-- The temperature outputs of `t_fine` and the reported temperature (R145). -/
def tempOf (r : SplitRule) (tf t : Int) : TempOut :=
  { fine := asU tf, c100 := asU t, int := asU (split r t).1, frac := (split r t).2 }

/-- The pressure outputs of a pressure (R167). -/
def pressOf (pCenti : Bool) (p : Int) : PressOut :=
  { comp := asU p, int := asU (p / 100), frac := if pCenti = true then asU (p % 100) else 0 }

/-- The humidity outputs of `hq` and `hc` (R184). -/
def humOf (r : SplitRule) (hq hc : Int) : HumOut :=
  { q10 := asU hq, c100 := asU hc, int := asU (split r hc).1, frac := (split r hc).2 }

/-- The temperature registers after reset (R301). -/
def TempOut.zero : TempOut := { fine := 0, c100 := 0, int := 0, frac := ⟨0, false⟩ }

/-- The humidity registers after reset (R301). -/
def HumOut.zero : HumOut := { q10 := 0, c100 := 0, int := 0, frac := ⟨0, false⟩ }

/-- The populated samples of a channel, oldest first (R220). -/
def AvgChan.samples (c : AvgChan) : List Word := c.win.take c.cnt.toNat

/-- The mean of some samples (R222): an exact sum, divided truncating toward zero. -/
def meanOf (xs : List Word) : Int := (xs.map asS).sum.tdiv xs.length

/-- `c'` is channel `c` after `push(c, x)` (R221, R222) in an engine with parameters `p`. -/
structure Pushed (p : Params) (x : Word) (c c' : AvgChan) : Prop where
  /-- appending while filling -/
  filling : c.cnt.toNat < p.avgN → c'.win = c.win.set c.cnt.toNat x ∧ c'.cnt.toNat = c.cnt.toNat + 1
  /-- shifting and appending once full -/
  full : ¬c.cnt.toNat < p.avgN → c'.win = c.win.tail ++ [x] ∧ c'.cnt = c.cnt
  /-- the mean is exact: it fits the register -/
  mean : asS c'.mean = meanOf c'.samples
  int : c'.int = asU (split p.splitRule (meanOf c'.samples)).1
  frac : c'.frac = (split p.splitRule (meanOf c'.samples)).2

/-- What every step keeps of an averaging channel (R41, R42, R220, R222). -/
structure AvgChan.Inv (p : Params) (en : Bool) (c : AvgChan) : Prop where
  /-- the window has `AVG_N` entries, none when the channel is disabled -/
  length : c.win.length = windowLength en p.avgN
  /-- `AVG_c_CNT` is at most `AVG_N` -/
  count : c.cnt.toNat ≤ c.win.length
  /-- entries at index ≥ `AVG_c_CNT` hold 0 -/
  unused : ∀ x ∈ c.win.drop c.cnt.toNat, x = 0
  /-- with no sample the outputs are 0 -/
  empty : c.cnt = 0 → c.mean = 0 ∧ c.int = 0 ∧ c.frac = ⟨0, false⟩
  /-- with samples the outputs are their mean and its split -/
  reported : c.cnt ≠ 0 →
    asS c.mean = meanOf c.samples ∧ c.int = asU (split p.splitRule (meanOf c.samples)).1 ∧
      c.frac = (split p.splitRule (meanOf c.samples)).2

/-- Every coefficient register holds a value of its coefficient's type (R33, R101). -/
structure CoeffSet.InRange (c : CoeffSet Word) : Prop where
  unsigned16 : ∀ w ∈ [c.t1, c.p1], 0 ≤ asS w ∧ asS w < 2 ^ 16
  signed16 : ∀ w ∈ [c.t2, c.t3, c.p2, c.p3, c.p4, c.p5, c.p6, c.p7, c.p8, c.p9, c.h2], -(2 ^ 15) ≤ asS w ∧ asS w < 2 ^ 15
  unsigned8 : ∀ w ∈ [c.h1, c.h3], 0 ≤ asS w ∧ asS w < 2 ^ 8
  signed12 : ∀ w ∈ [c.h4, c.h5], -(2 ^ 11) ≤ asS w ∧ asS w < 2 ^ 11
  signed8 : -(2 ^ 7) ≤ asS c.h6 ∧ asS c.h6 < 2 ^ 7

/-- The invariant of the engine: it holds at power-on of every legal engine and every step keeps it. -/
structure State.Inv (s : State) : Prop where
  /-- the parameters are a legal engine's (R10) -/
  legal : s.cfg.legal = true
  windowT : s.avgT.Inv s.cfg s.cfg.avgTEn
  windowH : s.avgH.Inv s.cfg s.cfg.avgHEn
  coeffs : s.dig.InRange
  /-- `CAL_VALID` means a set that passed the zero check (R26, R105) -/
  valid : s.status.calValid = true → ∀ w ∈ Exact.tpList s.dig, w ≠ 0
  /-- `HCZ` tells whether that set has a zero humidity coefficient (R26, R108) -/
  advisory : s.status.calValid = true → (s.status.hcz = true ↔ s.cfg.hasH = true ∧ ∃ w ∈ Exact.humList s.dig, w = 0)
  /-- the temperature registers hold 0 or a temperature and its split (R37, R46) -/
  temp : s.temp = .zero ∨ s.temp = tempOf s.cfg.splitRule (asS s.temp.fine) (asS s.temp.c100)
  /-- the clamp of the extended variant (R144) -/
  clamped : s.cfg.hasH = true → -4000 ≤ asS s.temp.c100 ∧ asS s.temp.c100 ≤ 8500
  /-- the pressure registers hold a pressure and its split (R38, R46) -/
  press : s.press = pressOf s.cfg.pCenti s.press.comp.toNat
  /-- the humidity registers hold 0 or a humidity within range and its split (R39, R46) -/
  hum : s.hum = .zero ∨ s.hum = humOf s.cfg.splitRule (asS s.hum.q10) (Exact.humC (asS s.hum.q10))
  humRange : 0 ≤ asS s.hum.q10 ∧ asS s.hum.q10 ≤ 102400
  /-- the samples were reported values (R228) -/
  samplesT : s.cfg.hasH = true → ∀ x ∈ s.avgT.win, -4000 ≤ asS x ∧ asS x ≤ 8500
  samplesH : ∀ x ∈ s.avgH.win, 0 ≤ asS x ∧ asS x ≤ 10000
  /-- without humidity its registers keep 0 (R31, R33, R186) -/
  reduced : s.cfg.hasH = false →
    (∀ w ∈ Exact.humList s.dig, w = 0) ∧ s.bound.h = ⟨false, false⟩ ∧ s.hum = .zero ∧ s.status.hv = false ∧
      s.status.hcz = false
  /-- without sea-level reduction `SLP` keeps 0 (R208) -/
  noSealevel : s.cfg.sealevelEn = false → s.slp = 0

/-- The bits of a register that a host write stores (R22, R62, R76): none of a read-only register or of `CMD`. -/
def Reg.writable (r : Reg) : Word :=
  match r with
  | .sensorStatus => 0x000000FF
  | .mode => 0x00000003
  | .calraw _ => 0xFFFFFFFF
  | .raw0 => 0xFFFFFFFF
  | .raw1 => 0xFFFFFFFF
  | .adcP => 0x000FFFFF
  | .adcT => 0x000FFFFF
  | .adcH => 0x0000FFFF
  | _ => 0

/-- The bits of a register that are not reserved (R26-R31, R36, R47): the others read 0. -/
def Reg.implemented (r : Reg) : Word :=
  match r with
  | .cmd => 0
  | .status => 0x000007FF
  | .err => 0x00000003
  | .features => 0x0000FF7F
  | .sensorStatus => 0x000000FF
  | .mode => 0x00000003
  | .bound => 0x0000003F
  | .adcP => 0x000FFFFF
  | .adcT => 0x000FFFFF
  | .adcH => 0x0000FFFF
  | .tFrac => 0x000001FF
  | .hFrac => 0x000001FF
  | .avgTFrac => 0x000001FF
  | .avgHFrac => 0x000001FF
  | _ => 0xFFFFFFFF

/-- Values at consecutive words from byte offset `base`. -/
def wordsAt (base : Nat) (vs : List Word) : List (BitVec 10 × Word) :=
  vs.zipIdx.map fun x => (BitVec.ofNat 10 (base + 4 * x.2), x.1)

/-- The register file of R22, row by row in the order of its offsets: each mapped offset with the value held there (R25-R42). -/
def State.portImage (s : State) : List (BitVec 10 × Word) :=
  wordsAt 0x000
    [0, statusWord s.status, s.err.setWidth 32, featuresWord s.cfg, s.sensorStatus.setWidth 32, s.mode.setWidth 32,
      boundWord s.bound, asU s.cfg.altM] ++
  wordsAt 0x020 s.calraw.toList ++
  wordsAt 0x050
    [s.dig.t1, s.dig.t2, s.dig.t3, s.dig.p1, s.dig.p2, s.dig.p3, s.dig.p4, s.dig.p5, s.dig.p6, s.dig.p7, s.dig.p8, s.dig.p9,
      s.dig.h1, s.dig.h2, s.dig.h3, s.dig.h4, s.dig.h5, s.dig.h6] ++
  wordsAt 0x0A0 [s.raw0, s.raw1, s.adcP.setWidth 32, s.adcT.setWidth 32, s.adcH.setWidth 32] ++
  wordsAt 0x0C0
    [s.temp.fine, s.temp.c100, s.temp.int, fracWord s.temp.frac, s.press.comp, s.press.int, s.press.frac, s.hum.q10, s.hum.c100,
      s.hum.int, fracWord s.hum.frac, s.slp] ++
  wordsAt 0x100
    [s.avgT.mean, s.avgT.int, fracWord s.avgT.frac, s.avgT.cnt, s.avgH.mean, s.avgH.int, fracWord s.avgH.frac, s.avgH.cnt] ++
  wordsAt 0x200 s.avgT.win ++ wordsAt 0x300 s.avgH.win

/-- An access the port cannot serve (R63, R72, R75). -/
def Access.Bad (p : Params) (a : Access) : Prop :=
  let (off, bytes) : BitVec 10 × Nat :=
    match a with
    | .read off bytes => (off, bytes)
    | .write off bytes _ => (off, bytes)
  bytes ≠ 4 ∨ off.toNat % 4 ≠ 0 ∨ ∀ r : Reg, r.mapped p = true → r.offset ≠ off

/-- Serving some accesses one after the other (R68), stopping at the first that does not give a next state. -/
def serveAll (as : List Access) (s : State) : Out :=
  match as with
  | [] => .next s
  | a :: rest =>
    match serve a s with
    | .next t => serveAll rest t
    | .fault f => .fault f
    | .refused r => .refused r

/-- Running commands one after the other, stopping after the first whose result is not `OK`. -/
def runCommands (is : List Instr) (s : State) : Out :=
  match is with
  | [] => .next s
  | i :: rest =>
    match exec i s with
    | .next t => if t.status.result = .ok then runCommands rest t else .next t
    | .fault f => .fault f
    | .refused r => .refused r

/-- The step commands of a measurement cycle in the order of spec/47_control.md R249, those the engine has. -/
def cycleCommands (p : Params) : List Instr :=
  [Instr.chkBusy, .unpack, .chkBounds, .compT, .compP, .compH, .sealevel, .avgT, .avgH].filter (featurePresent p)

end Sys2Proof.Machine
end

