-- ==== Sys2Proof/Certificates/Slice0/Obligations.lean ====
section
/-! DEFINITION. The statements about the engine, from the numbered rules of spec/.
`Exact` is the spec's arithmetic over exact integers; `s.reported c` is `s` with `RESULT` = `c` and `REARM` = 0. -/

open Sys2Proof Sys2Proof.Machine

/-! ### Reset, parameters, invariant -/

/-- R301: what `apply_reset()` and power-on leave in every register, for every parameter record; the gate is then closed. -/
def Obligations.PowerOnRegistersReadAsReset : Prop :=
  ∀ (p : Params) (r : Reg) (s t : State), r.mapped p = true → s.cfg = p → t = State.powerOn p ∨ t = applyReset s →
    t.Blocked ∧
    readReg t r =
      match r with
      | .features => featuresWord p
      | .siteAlt => asU p.altM
      | _ => 0

/-- R241: `SRESET` completes from every state, whatever the gate, and gives every register its power-on value. -/
def Obligations.SresetEqualsPowerOn : Prop :=
  encode .sreset = 0x00000001#32 ∧
    ∀ s : State, ∃ t : State, exec .sreset s = .next t ∧ t.cfg = s.cfg ∧ t.status.result = .ok ∧
      ∀ r : Reg, readReg t r = readReg (State.powerOn s.cfg) r

/-- R10: exactly the legal parameter records build an engine, and it starts in the power-on state. -/
def Obligations.BuildRefusesIllegalParameters : Prop :=
  ∀ p : Params,
    buildEngine p =
      if (p.avgHEn = true → p.hasH = true) ∧ 1 ≤ p.avgN ∧ p.avgN ≤ 64 ∧ -500 ≤ p.altM ∧ p.altM ≤ 9000 ∧
          p.tMin.toNat < p.tMax.toNat ∧ p.pMin.toNat < p.pMax.toNat ∧ p.hMin.toNat < p.hMax.toNat then
        .next (State.powerOn p)
      else .refused .illegalParameters

/-- R27: the fields of `FEATURES`, which no step changes. -/
def Obligations.FeaturesShowTheParameters : Prop :=
  ∀ s : State, s.cfg.legal = true →
    (Reg.features.offset = 0x00C#10 ∧ Reg.features.access = .readOnly) ∧
    (let w := readReg s .features
     w.getLsbD 0 = s.cfg.hasH ∧ w.getLsbD 1 = s.cfg.pCenti ∧ w.getLsbD 2 = decide (s.cfg.boundPolicy = .eqMax) ∧
       w.getLsbD 3 = s.cfg.busyCheck ∧ w.getLsbD 4 = s.cfg.avgTEn ∧ w.getLsbD 5 = s.cfg.avgHEn ∧
       w.getLsbD 6 = s.cfg.sealevelEn ∧ w.getLsbD 7 = false ∧ (w.extractLsb' 8 8).toNat = s.cfg.avgN ∧
       w.extractLsb' 16 16 = 0#16) ∧
    ∀ t : State, step s = .next t → readReg t .features = readReg s .features

/-- R32: `SITE_ALT` reads the altitude and is constant; and no step changes a parameter ("none changes while the engine
runs"). -/
def Obligations.ParametersNeverChange : Prop :=
  Reg.siteAlt.offset = 0x01C#10 ∧ Reg.siteAlt.access = .readOnly ∧
    ∀ s : State,
      (s.cfg.legal = true → asS (readReg s .siteAlt) = s.cfg.altM) ∧
      ∀ t : State, step s = .next t → t.cfg = s.cfg ∧ readReg t .siteAlt = readReg s .siteAlt

/-- The invariant holds at power-on of every legal engine. -/
def Obligations.PowerOnMeetsTheInvariant : Prop :=
  ∀ p : Params, p.legal = true → (State.powerOn p).Inv

/-- Every step keeps the invariant, from every state that meets it. -/
def Obligations.StepKeepsTheInvariant : Prop :=
  ∀ s t : State, s.Inv → step s = .next t → t.Inv

/-! ### Encoding -/

/-- Decoding the encoding of a command that the engine has gives it back, operand included. -/
def Obligations.DecodeOfEncode : Prop :=
  ∀ (p : Params) (i : Instr), i.wellFormed p = true → decode p (encode i) = .ok i

/-- A word that decodes is the encoding of the command it decodes to: each command has one word. -/
def Obligations.EncodeOfDecode : Prop :=
  ∀ (p : Params) (w : Word) (i : Instr), decode p w = .ok i → encode i = w ∧ i.wellFormed p = true

/-- R84, R85, R87: the four checks of a word, in order, for every word and every parameter record. -/
def Obligations.LegalityInOrder : Prop :=
  ∀ (p : Params) (w : Word),
    let rsv := w.toNat / 65536
    let arg := w.toNat / 256 % 256
    let opc := w.toNat % 256
    let needs : Prop :=
      (opc = 0x10 → p.busyCheck = true) ∧ (opc = 0x22 → p.hasH = true) ∧ (opc = 0x23 → p.sealevelEn = true) ∧
        (opc = 0x30 → p.avgTEn = true) ∧ (opc = 0x31 → p.avgHEn = true) ∧
        (opc = 0x32 → p.avgTEn = true ∨ p.avgHEn = true)
    let inMap : Prop :=
      opc ∈ [0x00, 0x01, 0x02, 0x03, 0x08, 0x10, 0x11, 0x12, 0x20, 0x21, 0x22, 0x23, 0x30, 0x31, 0x32, 0x40]
    let argFits : Prop := arg = 0 ∨ (opc = 0x03 ∧ arg < 4)
    (rsv ≠ 0 → decode p w = .error .reservedBits) ∧
    (rsv = 0 → ¬inMap → decode p w = .error .reservedOpcode) ∧
    (rsv = 0 → inMap → ¬needs → decode p w = .error .featureAbsent) ∧
    (rsv = 0 → inMap → needs → ¬argFits → decode p w = .error .badArgument) ∧
    (rsv = 0 → inMap → needs → argFits → ∃ i : Instr, decode p w = .ok i)

/-- Words of every command, written out from the opcode map, stand for it in the default engine. -/
def Obligations.CommandWordsDecode : Prop :=
  decode .standard 0x00000000#32 = .ok .nop ∧ decode .standard 0x00000001#32 = .ok .sreset ∧
    decode .standard 0x00000303#32 = .ok (.errSet 3) ∧ decode .standard 0x00000008#32 = .ok .calLatch ∧
    decode .standard 0x00000012#32 = .ok .chkBounds ∧ decode .standard 0x00000020#32 = .ok .compT ∧
    decode .standard 0x00000023#32 = .ok .sealevel ∧ decode .standard 0x00000031#32 = .ok .avgH ∧
    decode .standard 0x00000040#32 = .ok .measure

/-! ### Steps and the port -/

/-- A step runs the decoded command: with the write of a word to `CMD` oldest in the queue of accesses (the model's own input,
assumption 2), the step is the decoded command on the state without that access; an illegal word changes only the report. -/
def Obligations.StepRunsTheDecodedCommand : Prop :=
  ∀ (s : State) (w : Word) (rest : List Access), s.port.pending = .write 0x000 4 w :: rest →
    let s' : State := { s with port := { s.port with pending := rest } }
    (∀ i : Instr, decode s.cfg w = .ok i → step s = exec i s') ∧
    (∀ e : Illegal, decode s.cfg w = .error e → step s = .next (s'.reported .illegalCmd))

/-- The model's own choices (assumptions 2, 3, 6, 17): with nothing pending the engine is idle; otherwise a step serves the oldest
access on the state without it; a read puts its value where the host finds it; no command touches the host's side; a
command whose feature the engine lacks, given to `exec`, has the illegal word's effect; and `withFetchWord` makes the next step
run the word's command on the very same state. -/
def Obligations.IdleStepAndFetchedWord : Prop :=
  (∀ s : State, s.port.pending = [] → step s = .next s) ∧
  (∀ (s : State) (a : Access) (rest : List Access), s.port.pending = a :: rest →
    step s = serve a { s with port := { s.port with pending := rest } }) ∧
  (∀ (s : State) (r : Reg), r.mapped s.cfg = true →
    serve (.read r.offset 4) s = .next { s with port := { s.port with readData := some (readReg s r) } }) ∧
  (∀ (i : Instr) (s t : State), exec i s = .next t → t.port = s.port) ∧
  (∀ (i : Instr) (s : State), featurePresent s.cfg i = false → exec i s = .next (s.reported .illegalCmd)) ∧
  ∀ (s : State) (w : Nat) (i : Instr), decode s.cfg (BitVec.ofNat 32 w) = .ok i → step (s.withFetchWord 32 w) = exec i s

/-- R72: the mapped offsets are exactly these, and each holds the register of the table of R22. -/
def Obligations.MappedOffsets : Prop :=
  ∀ (p : Params) (off : BitVec 10), p.legal = true →
    let o := off.toNat
    ((∃ r : Reg, regAt p off = some r) ↔
      o % 4 = 0 ∧
        (o < 0x044 ∨ (0x050 ≤ o ∧ o < 0x098) ∨ (0x0A0 ≤ o ∧ o < 0x0B4) ∨ (0x0C0 ≤ o ∧ o < 0x0F0) ∨
          (0x100 ≤ o ∧ o < 0x120) ∨ (p.avgTEn = true ∧ 0x200 ≤ o ∧ o < 0x200 + 4 * p.avgN) ∨
          (p.avgHEn = true ∧ 0x300 ≤ o ∧ o < 0x300 + 4 * p.avgN))) ∧
    ∀ r : Reg, regAt p off = some r ↔ r.offset = off ∧ r.mapped p = true

/-- R63, R75, R279 as the model has them: serving an access faults exactly when it is misaligned, unmapped or not 32 bits wide,
so a step faults exactly when the access it serves is such; nothing is ever refused. -/
def Obligations.OnlyAccessErrorsFault : Prop :=
  (∀ (a : Access) (s : State), ((∃ f : Fault, serve a s = .fault f) ↔ a.Bad s.cfg) ∧ ∀ r : Refusal, serve a s ≠ .refused r) ∧
  ∀ s : State,
    ((∃ f : Fault, step s = .fault f) ↔ ∃ (a : Access) (rest : List Access), s.port.pending = a :: rest ∧ a.Bad s.cfg) ∧
    ∀ r : Refusal, step s ≠ .refused r

/-- R61: a read of a mapped register returns its 32 bits (0 for `CMD`, the assembled fields for `STATUS`) and changes no
register; any other read is an access error and returns no value. From every state that meets the invariant (it fixes how many
window entries exist), the reads that return a value are exactly the rows of the register file: which value is stored at which
offset. -/
def Obligations.ReadReturnsTheRegister : Prop :=
  ∀ (s : State) (off : BitVec 10),
    ((Access.read off 4).Bad s.cfg →
      (∃ f : Fault, memRead s off 4 = .error f) ∧ ∃ f : Fault, serve (.read off 4) s = .fault f) ∧
    (∀ r : Reg, r.mapped s.cfg = true → r.offset = off →
      memRead s off 4 = .ok (readReg s r) ∧
        ∃ t : State, serve (.read off 4) s = .next t ∧ ∀ r' : Reg, readReg t r' = readReg s r') ∧
    readReg s .cmd = 0 ∧ readReg s .status = statusWord s.status ∧
    (s.Inv → ∀ v : Word, memRead s off 4 = .ok v ↔ (off, v) ∈ s.portImage)

/-- R62: a write to a mapped register other than `CMD` stores the bits that are not reserved, ignores the rest, ignores a
read-only register, and changes no other register; a write that is not possible is an access error; a write to `CMD` runs the
command before it completes. -/
def Obligations.WriteStoresUnreservedBits : Prop :=
  ∀ (s : State) (off : BitVec 10) (v : Word),
    ((Access.write off 4 v).Bad s.cfg → ∃ f : Fault, serve (.write off 4 v) s = .fault f) ∧
    (∀ r : Reg, r.mapped s.cfg = true → r.offset = off → r ≠ .cmd →
      ∃ t : State, serve (.write off 4 v) s = .next t ∧ t.cfg = s.cfg ∧ t.port = s.port ∧
        ∀ r' : Reg, readReg t r' =
          if r' = r then (readReg s r &&& ~~~r.writable) ||| (v &&& r.writable) else readReg s r') ∧
    (off = 0x000#10 → serve (.write off 4 v) s = runCommand v s)

/-- R76, and the reserved bits of the other registers (R26-R31, R47): reserved bits read 0 in every state, so also after any
write, and `CALRAW` and `RAW` registers store all 32 bits. -/
def Obligations.ReservedBitsReadZero : Prop :=
  (∀ (s : State) (r : Reg), readReg s r &&& ~~~r.implemented = 0) ∧
  ∀ (s : State) (v : Word),
    (∀ k : Fin 9, readReg (storeReg s (.calraw k) v) (.calraw k) = v) ∧
      readReg (storeReg s .raw0 v) .raw0 = v ∧ readReg (storeReg s .raw1 v) .raw1 = v

/-- The places of the flags in `STATUS` (R26), `BOUND` (R31) and the four fraction registers (R47), and the numbers of the
result codes (R271). -/
def Obligations.FlagRegisterLayout : Prop :=
  ∀ s : State,
    (let w := readReg s .status
     w.extractLsb' 0 4 = s.status.result.code ∧ w.getLsbD 4 = s.status.divz ∧ w.getLsbD 5 = s.status.tv ∧
       w.getLsbD 6 = s.status.pv ∧ w.getLsbD 7 = s.status.hv ∧ w.getLsbD 8 = s.status.calValid ∧
       w.getLsbD 9 = s.status.hcz ∧ w.getLsbD 10 = s.status.rearm) ∧
    (let w := readReg s .bound
     w.getLsbD 0 = s.bound.t.low ∧ w.getLsbD 1 = s.bound.t.high ∧ w.getLsbD 2 = s.bound.p.low ∧
       w.getLsbD 3 = s.bound.p.high ∧ w.getLsbD 4 = s.bound.h.low ∧ w.getLsbD 5 = s.bound.h.high) ∧
    (∀ rf ∈ [(Reg.tFrac, s.temp.frac), (.hFrac, s.hum.frac), (.avgTFrac, s.avgT.frac), (.avgHFrac, s.avgH.frac)],
      let w := readReg s rf.1
      w.extractLsb' 0 8 = rf.2.digits ∧ w.getLsbD 8 = rf.2.neg ∧ w.extractLsb' 9 23 = 0#23) ∧
    [ResultCode.ok, .configError, .sensorBusy, .outOfRange, .divByZero, .calInvalid, .sequenceError, .illegalCmd].map
        (fun c => c.code.toNat) = [0, 1, 2, 3, 4, 5, 6, 7]

/-- "Every bit of state is readable by the host; nothing is hidden": two states of one engine that meet the invariant and
read alike at every mapped register are equal, but for the host's own side of the port. -/
def Obligations.RegistersDetermineTheState : Prop :=
  ∀ s t : State, s.Inv → t.Inv → s.cfg = t.cfg → s.port = t.port →
    (∀ r : Reg, r.mapped s.cfg = true → readReg s r = readReg t r) → s = t

/-! ### Control commands -/

/-- R240: `NOP` clears a stale `RESULT` and `REARM` and changes nothing else. -/
def Obligations.NopOnlyReports : Prop :=
  encode .nop = 0x00000000#32 ∧ ∀ s : State, exec .nop s = .next (s.reported .ok)

/-- R242: `ERR_CLR` clears the error latch and nothing else, so a gate held by `CAL_VALID` = 0 stays closed. -/
def Obligations.ErrClrClearsTheLatch : Prop :=
  encode .errClr = 0x00000002#32 ∧
    ∀ s : State, ∃ t : State, exec .errClr s = .next t ∧ t = State.reported { s with err := 0 } .ok ∧
      (t.Blocked ↔ s.status.calValid = false)

/-- R243: `ERR_SET m` ORs the mask into `ERR` and changes nothing else; an argument above 3 is illegal. -/
def Obligations.ErrSetOrsTheMask : Prop :=
  (∀ m : BitVec 2, (encode (.errSet m)).toNat = 3 + 256 * m.toNat) ∧
  (∀ (s : State) (m : BitVec 2), ∃ t : State, exec (.errSet m) s = .next t ∧
    t = State.reported { s with err := t.err } .ok ∧
    ∀ k : Nat, t.err.getLsbD k = (s.err.getLsbD k || m.getLsbD k)) ∧
  ∀ (p : Params) (arg : Nat), 4 ≤ arg → arg < 256 → decode p (BitVec.ofNat 32 (3 + 256 * arg)) = .error .badArgument

/-- R30: the error latch only accumulates: only `CAL_LATCH` and `ERR_SET` set bits, only `ERR_CLR` and reset clear it; while
it is not 0 every data-path command fails with `CONFIG_ERROR`; a host write to the register is ignored. -/
def Obligations.ErrorLatchAccumulates : Prop :=
  (∀ (i : Instr) (s t : State), exec i s = .next t →
    (i ≠ .errClr → i ≠ .sreset → t.err &&& s.err = s.err) ∧
    (t.err ≠ s.err → i = .calLatch ∨ i = .errClr ∨ i = .sreset ∨ ∃ m : BitVec 2, i = .errSet m)) ∧
  (∀ (i : Instr) (s : State), isGated i = true → featurePresent s.cfg i = true → s.err ≠ 0 →
    ∃ t : State, exec i s = .next t ∧ t.status.result = .configError) ∧
  (Reg.err.offset = 0x008#10 ∧ Reg.err.access = .readOnly ∧ ∀ (s : State) (v : Word), storeReg s .err v = s) ∧
  ∀ s : State, readReg s .err = s.err.setWidth 32

/-- R120: while `ERR` ≠ 0 or `CAL_VALID` = 0 every gated command changes only `RESULT` and `REARM`, and no command reports
`CONFIG_ERROR` otherwise. -/
def Obligations.GateBlocksDataPath : Prop :=
  ∀ (i : Instr) (s : State),
    (isGated i = true → featurePresent s.cfg i = true → s.Blocked → exec i s = .next (s.reported .configError)) ∧
    ∀ t : State, exec i s = .next t → t.status.result = .configError → isGated i = true ∧ s.Blocked

/-- R86, R88: a command whose feature the engine lacks is an illegal word; writing an illegal word to `CMD` changes `RESULT` and
`REARM` and nothing else, and writing a legal one runs its command, which first clears `REARM`. -/
def Obligations.IllegalWordsOnlyReport : Prop :=
  (∀ (i : Instr) (p : Params),
    (featurePresent p i =
      match i with
      | .chkBusy => p.busyCheck
      | .compH => p.hasH
      | .sealevel => p.sealevelEn
      | .avgT => p.avgTEn
      | .avgH => p.avgHEn
      | .avgClr => p.avgTEn || p.avgHEn
      | _ => true) ∧
    (featurePresent p i = false → decode p (encode i) = .error .featureAbsent)) ∧
  ∀ (s : State) (w : Word),
    (∀ e : Illegal, decode s.cfg w = .error e → memWrite s 0x000 4 w = .next (s.reported .illegalCmd)) ∧
    (∀ i : Instr, decode s.cfg w = .ok i →
      memWrite s 0x000 4 w = exec i { s with status := { s.status with rearm := false } })

/-- Every command completes in every state with a next state: no hang, no fault, no refusal (R281). -/
def Obligations.EveryCommandCompletes : Prop :=
  ∀ (i : Instr) (s : State), ∃ t : State, exec i s = .next t

/-! ### Calibration -/

/-- R104 with R101-R103, R105, R106, R108: `CAL_LATCH` unpacks the image byte by byte, rejects a zero temperature or pressure
coefficient, and otherwise latches all eighteen. -/
def Obligations.CalLatchFollowsTheSpec : Prop :=
  encode .calLatch = 0x00000008#32 ∧
    ∀ s : State,
      let c := Exact.coefficients s.cfg.hasH s.calraw
      exec .calLatch s =
        if ∃ v ∈ Exact.tpList c, v = 0 then
          .next (State.reported
            { s with err := s.err ||| 0b01#2, status := { s.status with calValid := false } } .calInvalid)
        else
          .next (State.reported
            { s with
              dig := c.map asU
              status :=
                { s.status with
                  calValid := true
                  hcz := decide (s.cfg.hasH = true ∧ ∃ v ∈ Exact.humList c, v = 0)
                  tv := false
                  pv := false
                  hv := false } } .ok)

/-- R109: the coefficients change only through a successful `CAL_LATCH` and through reset. -/
def Obligations.CoefficientsChangeOnlyByLatch : Prop :=
  (∀ (i : Instr) (s t : State), exec i s = .next t → t.dig ≠ s.dig →
    (i = .calLatch ∧ t.status.result = .ok) ∨ i = .sreset) ∧
  ∀ (s : State) (r : Reg) (v : Word), (storeReg s r v).dig = s.dig

/-- R111: a successful `CAL_LATCH` keeps outputs and windows, but `COMP_P`, `COMP_H`, `SEALEVEL` and the averaging commands
then refuse to use the old results. -/
def Obligations.LatchInvalidatesResults : Prop :=
  ∀ s t : State, exec .calLatch s = .next t → t.status.result = .ok →
    t.outputs = s.outputs ∧ t.status.tv = false ∧ t.status.pv = false ∧ t.status.hv = false ∧
    ∀ i ∈ [Instr.compP, .compH, .sealevel, .avgT, .avgH], featurePresent t.cfg i = true → t.err = 0 →
      exec i t = .next (t.reported .sequenceError)

/-! ### Acquisition -/

/-- R121, R122: `CHK_BUSY` reports, from bits 3 and 0 of `SENSOR_STATUS` only, and changes nothing else. -/
def Obligations.ChkBusyFollowsTheSpec : Prop :=
  encode .chkBusy = 0x00000010#32 ∧
    ∀ s : State,
      exec .chkBusy s = .next (s.reported
        (if s.cfg.busyCheck = false then .illegalCmd
         else if s.Blocked then .configError
         else if s.sensorStatus.toNat / 8 % 2 = 1 ∨ s.sensorStatus.toNat % 2 = 1 then .sensorBusy
         else .ok))

/-- R123, R124: `UNPACK` turns the burst bytes, high byte first, into the raw counts, and writes nothing else. -/
def Obligations.UnpackFollowsTheSpec : Prop :=
  encode .unpack = 0x00000011#32 ∧
    ∀ s : State, ∃ t : State, exec .unpack s = .next t ∧
      if s.Blocked then t = s.reported .configError
      else
        t = State.reported { s with adcP := t.adcP, adcT := t.adcT, adcH := t.adcH } .ok ∧
          t.adcP.toNat = Exact.raw20 s.raw0 s.raw1 0 ∧ t.adcT.toNat = Exact.raw20 s.raw0 s.raw1 3 ∧
          if s.cfg.hasH = true then t.adcH.toNat = Exact.raw16 s.raw0 s.raw1 else t.adcH = s.adcH

/-- R129 with R126-R128: `CHK_BOUNDS` rewrites all six flags from the bound predicate of the policy and reports whether any
is 1; in the reduced variant the humidity pair is 0. -/
def Obligations.ChkBoundsFollowsTheSpec : Prop :=
  encode .chkBounds = 0x00000012#32 ∧
    ∀ s : State,
      let b : Bound :=
        { t := Exact.pair s.cfg.boundPolicy s.adcT.toNat s.cfg.tMin.toNat s.cfg.tMax.toNat
          p := Exact.pair s.cfg.boundPolicy s.adcP.toNat s.cfg.pMin.toNat s.cfg.pMax.toNat
          h :=
            if s.cfg.hasH = true then Exact.pair s.cfg.boundPolicy s.adcH.toNat s.cfg.hMin.toNat s.cfg.hMax.toNat
            else ⟨false, false⟩ }
      exec .chkBounds s =
        if s.Blocked then .next (s.reported .configError)
        else if boundWord b = 0 then .next (State.reported { s with bound := b } .ok)
        else .next (State.reported { s with bound := b } .outOfRange)

/-! ### Compensation -/

/-- R14: the word operations of the compensation pipelines are the wrapping operators over exact integers. -/
def Obligations.WordOperatorsWrapAsSpecified : Prop :=
  (∀ a b : Word, asS (a + b) = Exact.addS (asS a) (asS b) ∧ asS (a - b) = Exact.subS (asS a) (asS b) ∧
    asS (a * b) = Exact.mulS (asS a) (asS b)) ∧
  (∀ (a : Word) (n : Nat), asS (a <<< n) = Exact.shlS (asS a) n ∧ asS (sra a n) = Exact.shr (asS a) n) ∧
  (∀ a b : Word, ((a + b).toNat : Int) = Exact.wrapU (a.toNat + b.toNat) ∧
    ((a - b).toNat : Int) = Exact.subU a.toNat b.toNat ∧ ((a * b).toNat : Int) = Exact.mulU a.toNat b.toNat ∧
    (b ≠ 0 → (a / b).toNat = a.toNat / b.toNat)) ∧
  ∀ (a : Word) (n : Nat), ((a <<< n).toNat : Int) = Exact.shlU a.toNat n ∧
    ((a >>> n).toNat : Int) = Exact.shr a.toNat n

/-- R140, R142-R145: `COMP_T` checks the gate and its own channel, then computes and commits the four temperature registers
exactly as the formula over wrapped integers gives them, and changes nothing else. -/
def Obligations.CompTFollowsTheSpec : Prop :=
  encode .compT = 0x00000020#32 ∧
    ∀ s : State,
      let b := Exact.pair s.cfg.boundPolicy s.adcT.toNat s.cfg.tMin.toNat s.cfg.tMax.toNat
      let s₁ : State := { s with bound := { s.bound with t := b } }
      let tf := Exact.tFine s.dig s.adcT.toNat
      exec .compT s =
        if s.Blocked then .next (s.reported .configError)
        else if b.low = true ∨ b.high = true then .next (s₁.reported .outOfRange)
        else
          .next (State.reported
            { s₁ with
              temp := tempOf s.cfg.splitRule tf (Exact.tC100 s.cfg.hasH tf)
              status := { s.status with tv := true } } .ok)

/-- R160-R165, R167: `COMP_P` checks the gate, the sequence and its own channel, guards the denominator, and otherwise commits
the three pressure registers exactly as the formula over wrapped integers gives them, and changes nothing else. -/
def Obligations.CompPFollowsTheSpec : Prop :=
  encode .compP = 0x00000021#32 ∧
    ∀ s : State,
      let b := Exact.pair s.cfg.boundPolicy s.adcP.toNat s.cfg.pMin.toNat s.cfg.pMax.toNat
      let s₁ : State := { s with bound := { s.bound with p := b } }
      exec .compP s =
        if s.Blocked then .next (s.reported .configError)
        else if s.status.tv = false then .next (s.reported .sequenceError)
        else if b.low = true ∨ b.high = true then .next (s₁.reported .outOfRange)
        else
          match Exact.pressure s.dig s.adcP.toNat (asS s.temp.fine) with
          | none => .next (State.reported { s₁ with status := { s.status with divz := true } } .divByZero)
          | some p =>
            .next (State.reported
              { s₁ with
                press := pressOf s.cfg.pCenti p
                status := { s.status with divz := false, pv := true } } .ok)

/-- R180-R184: `COMP_H` checks the gate, the sequence and its own channel, then commits the four humidity registers exactly as
the formula over wrapped integers with its clamps gives them, and changes nothing else. -/
def Obligations.CompHFollowsTheSpec : Prop :=
  encode .compH = 0x00000022#32 ∧
    ∀ s : State,
      let b := Exact.pair s.cfg.boundPolicy s.adcH.toNat s.cfg.hMin.toNat s.cfg.hMax.toNat
      let s₁ : State := { s with bound := { s.bound with h := b } }
      let hq := Exact.humQ s.dig s.adcH.toNat (asS s.temp.fine)
      exec .compH s =
        if s.cfg.hasH = false then .next (s.reported .illegalCmd)
        else if s.Blocked then .next (s.reported .configError)
        else if s.status.tv = false then .next (s.reported .sequenceError)
        else if b.low = true ∨ b.high = true then .next (s₁.reported .outOfRange)
        else
          .next (State.reported
            { s₁ with
              hum := humOf s.cfg.splitRule hq (Exact.humC hq)
              status := { s.status with hv := true } } .ok)

/-- "The result is always within 0..102400 (H_Q10) and 0..10000 (H_C100), whatever the inputs", and its display split under
the default rule never has `NEG`. -/
def Obligations.HumidityStaysInRange : Prop :=
  ∀ (c : CoeffSet Word) (adc : BitVec 16) (tf : Word),
    0 ≤ asS (compH c adc tf).1 ∧ asS (compH c adc tf).1 ≤ 102400 ∧ 0 ≤ (compH c adc tf).2 ∧ (compH c adc tf).2 ≤ 10000 ∧
      (splitDefault (compH c adc tf).2).2.neg = false

/-- R141: the default display split, with what it says of its value: the sign, digits below the divisor, and, when the integer
part exceeds 9 in magnitude, the value back. -/
def Obligations.SplitRecomposesTheValue : Prop :=
  ∀ v : Int,
    ∃ (i : Int) (f : Frac), split .default v = (i, f) ∧ i = v.tdiv 100 ∧ (f.neg = true ↔ v < 0) ∧
      f.digits.toNat = v.natAbs % (if 9 < i.natAbs then 100 else 10) ∧
      (fracWord f).toNat = f.digits.toNat + (if v < 0 then 256 else 0) ∧
      (9 < i.natAbs → f.digits.toNat < 100 ∧ v.natAbs = 100 * i.natAbs + f.digits.toNat) ∧
      (i.natAbs ≤ 9 → f.digits.toNat < 10 ∧ (v.natAbs - f.digits.toNat) % 10 = 0 ∧ f.digits.toNat ≤ v.natAbs) ∧
      (0 < i → 0 < v) ∧ (i < 0 → v < 0) ∧ v.natAbs / 100 = i.natAbs

/-- R147, R170: the temperature results depend only on `ADC_T` and the coefficients, the pressure only on `ADC_P`, `T_FINE`
and the coefficients, within engines of the same variant, precision and split. -/
def Obligations.CompensationDependsOnlyOnInputs : Prop :=
  ∀ s s' t t' : State, s.cfg.hasH = s'.cfg.hasH → s.cfg.pCenti = s'.cfg.pCenti → s.cfg.splitRule = s'.cfg.splitRule →
    s.dig = s'.dig → t.status.result = .ok → t'.status.result = .ok →
    (s.adcT = s'.adcT → exec .compT s = .next t → exec .compT s' = .next t' → t.temp = t'.temp) ∧
    (s.adcP = s'.adcP → s.temp.fine = s'.temp.fine → exec .compP s = .next t → exec .compP s' = .next t' →
      t.press = t'.press)

/-! ### Sea level -/

/-- R200-R206: `SEALEVEL` checks the gate and the sequence, then writes `SLP` with the engine's sea-level function of the
station pressure, the station temperature and the altitude, and nothing else; a function other than the default is
uninterpreted. -/
def Obligations.SealevelFollowsTheSpec : Prop :=
  encode .sealevel = 0x00000023#32 ∧
    ∀ s : State,
      exec .sealevel s =
        if s.cfg.sealevelEn = false then .next (s.reported .illegalCmd)
        else if s.Blocked then .next (s.reported .configError)
        else if s.status.tv = false ∨ s.status.pv = false then .next (s.reported .sequenceError)
        else .next (State.reported { s with slp := Exact.slp s.cfg s.press.comp (asS s.temp.c100) } .ok)

/-- The default sea-level function at a site at, above or below sea level: "`SLP` = `P_COMP`" at altitude 0; not below the
station pressure above sea level; not above it below sea level at any temperature the extended variant reports. -/
def Obligations.SealevelFollowsTheAltitude : Prop :=
  ∀ (c : Params) (p t : Word), c.legal = true → c.sealevelFn = .default →
    (c.altM = 0 → sealevelFn c p t = p) ∧
    (0 < c.altM → p.toNat ≤ (sealevelFn c p t).toNat) ∧
    (c.altM < 0 → -4000 ≤ asS t → (sealevelFn c p t).toNat ≤ p.toNat)

/-! ### Averaging -/

/-- R221, R222, R223: what a push does to its channel, in a legal engine: append while filling, shift once full, and the exact
mean of the populated entries, which fits its register. -/
def Obligations.PushKeepsTheLastSamplesAndTheirMean : Prop :=
  ∀ (p : Params) (x : Word) (c : AvgChan), p.legal = true → c.Inv p true → Pushed p x c (pushSample p x c)

/-- R224: `AVG_T` pushes `T_C100` into the temperature window when `TV` = 1, and writes nothing else. -/
def Obligations.AvgTFollowsTheSpec : Prop :=
  encode .avgT = 0x00000030#32 ∧
    ∀ s : State,
      exec .avgT s =
        if s.cfg.avgTEn = false then .next (s.reported .illegalCmd)
        else if s.Blocked then .next (s.reported .configError)
        else if s.status.tv = false then .next (s.reported .sequenceError)
        else .next (State.reported { s with avgT := pushSample s.cfg s.temp.c100 s.avgT } .ok)

/-- R225: `AVG_H` pushes `H_C100` into the humidity window when `HV` = 1, and writes nothing else. -/
def Obligations.AvgHFollowsTheSpec : Prop :=
  encode .avgH = 0x00000031#32 ∧
    ∀ s : State,
      exec .avgH s =
        if s.cfg.avgHEn = false then .next (s.reported .illegalCmd)
        else if s.Blocked then .next (s.reported .configError)
        else if s.status.hv = false then .next (s.reported .sequenceError)
        else .next (State.reported { s with avgH := pushSample s.cfg s.hum.c100 s.avgH } .ok)

/-- R226: `AVG_CLR` empties both windows, whatever the gate, and writes nothing else. -/
def Obligations.AvgClrFollowsTheSpec : Prop :=
  encode .avgClr = 0x00000032#32 ∧
    ∀ s : State, s.Inv →
      exec .avgClr s =
        if s.cfg.avgTEn = false ∧ s.cfg.avgHEn = false then .next (s.reported .illegalCmd)
        else
          .next (State.reported
            { s with
              avgT :=
                { mean := 0, int := 0, frac := ⟨0, false⟩, cnt := 0
                  win := List.replicate (if s.cfg.avgTEn = true then s.cfg.avgN else 0) 0 }
              avgH :=
                { mean := 0, int := 0, frac := ⟨0, false⟩, cnt := 0
                  win := List.replicate (if s.cfg.avgHEn = true then s.cfg.avgN else 0) 0 } } .ok)

/-- "The window holds exactly the last N samples in order and the reported mean matches their arithmetic mean": after any
samples are pushed into an empty window. -/
def Obligations.WindowHoldsTheLastSamples : Prop :=
  ∀ (p : Params) (xs : List Word), p.legal = true →
    let c := xs.foldl (fun c x => pushSample p x c) (AvgChan.empty p.avgN)
    c.samples = xs.drop (xs.length - p.avgN) ∧ c.cnt.toNat = min xs.length p.avgN ∧ c.win.length = p.avgN ∧
      (xs ≠ [] → asS c.mean = meanOf (xs.drop (xs.length - p.avgN)))

/-! ### The measurement cycle -/

/-- R244-R246: `MEASURE` is the whole cycle, for every state: its four gates in order, what each failure leaves written, and
the commit of every output, the pushes and the re-arm request when all gates pass. -/
def Obligations.MeasureFollowsTheSpec : Prop :=
  encode .measure = 0x00000040#32 ∧
    ∀ s : State,
      let c := s.cfg
      let adcP := BitVec.ofNat 20 (Exact.raw20 s.raw0 s.raw1 0)
      let adcT := BitVec.ofNat 20 (Exact.raw20 s.raw0 s.raw1 3)
      let adcH := if c.hasH = true then BitVec.ofNat 16 (Exact.raw16 s.raw0 s.raw1) else s.adcH
      let b : Bound :=
        { t := Exact.pair c.boundPolicy adcT.toNat c.tMin.toNat c.tMax.toNat
          p := Exact.pair c.boundPolicy adcP.toNat c.pMin.toNat c.pMax.toNat
          h := if c.hasH = true then Exact.pair c.boundPolicy adcH.toNat c.hMin.toNat c.hMax.toNat else ⟨false, false⟩ }
      let s₁ : State := { s with adcP := adcP, adcT := adcT, adcH := adcH, bound := b }
      let tf := Exact.tFine s.dig adcT.toNat
      let tc := Exact.tC100 c.hasH tf
      let hq := Exact.humQ s.dig adcH.toNat tf
      exec .measure s =
        if s.Blocked then .next (s.reported .configError)
        else if c.busyCheck = true ∧ (s.sensorStatus.toNat / 8 % 2 = 1 ∨ s.sensorStatus.toNat % 2 = 1) then
          .next (s.reported .sensorBusy)
        else if boundWord b ≠ 0 then .next (s₁.reported .outOfRange)
        else
          match Exact.pressure s.dig adcP.toNat tf with
          | none => .next (State.reported { s₁ with status := { s.status with divz := true } } .divByZero)
          | some p =>
            .next
              { s₁ with
                temp := tempOf c.splitRule tf tc
                press := pressOf c.pCenti p
                hum := if c.hasH = true then humOf c.splitRule hq (Exact.humC hq) else s.hum
                slp := if c.sealevelEn = true then Exact.slp c (asU p) tc else s.slp
                avgT := if c.avgTEn = true then pushSample c (asU tc) s.avgT else s.avgT
                avgH := if c.avgHEn = true then pushSample c (asU (Exact.humC hq)) s.avgH else s.avgH
                status :=
                  { s.status with
                    result := .ok
                    divz := false
                    tv := true
                    pv := true
                    hv := c.hasH || s.status.hv
                    rearm := decide (s.mode = 0b01#2 ∨ s.mode = 0b10#2) } }

/-- What a failing `MEASURE` leaves written, by its result (the table of 47_control.md section 2, "What a failing MEASURE
leaves written"): with the new raw counts go the new flags, those the bound predicate gives these counts. -/
def Obligations.FailingMeasureLeaves : Prop :=
  ∀ s t : State, exec .measure s = .next t → t.status.result ≠ .ok →
    let c := s.cfg
    let newCounts : Prop :=
      t.adcP.toNat = Exact.raw20 s.raw0 s.raw1 0 ∧ t.adcT.toNat = Exact.raw20 s.raw0 s.raw1 3 ∧
        if c.hasH = true then t.adcH.toNat = Exact.raw16 s.raw0 s.raw1 else t.adcH = s.adcH
    let newFlags : Bound :=
      { t := Exact.pair c.boundPolicy t.adcT.toNat c.tMin.toNat c.tMax.toNat
        p := Exact.pair c.boundPolicy t.adcP.toNat c.pMin.toNat c.pMax.toNat
        h := if c.hasH = true then Exact.pair c.boundPolicy t.adcH.toNat c.hMin.toNat c.hMax.toNat else ⟨false, false⟩ }
    let s₁ : State := { s with adcP := t.adcP, adcT := t.adcT, adcH := t.adcH, bound := newFlags }
    t.outputs = s.outputs ∧ t.status.tv = s.status.tv ∧ t.status.pv = s.status.pv ∧ t.status.hv = s.status.hv ∧
    t.dig = s.dig ∧ t.err = s.err ∧ t.status.rearm = false ∧
    match t.status.result with
    | .configError => t = s.reported .configError
    | .sensorBusy => t = s.reported .sensorBusy
    | .outOfRange =>
      newCounts ∧ readReg t .bound ≠ 0 ∧ t.status.divz = s.status.divz ∧ t = s₁.reported .outOfRange
    | .divByZero =>
      newCounts ∧ readReg t .bound = 0 ∧ t.status.divz = true ∧
        t = State.reported { s₁ with status := { s.status with divz := true } } .divByZero
    | _ => False

/-- "Step commands and MEASURE agree": from every state of a legal engine, the step commands in order, stopping at the first
that fails, end with the same result code as one `MEASURE`, and when all succeed with the same state but for `REARM`. -/
def Obligations.StepCommandsAgreeWithMeasure : Prop :=
  ∀ s : State, s.cfg.legal = true →
    ∃ t m : State, runCommands (cycleCommands s.cfg) s = .next t ∧ exec .measure s = .next m ∧
      m.status.result = t.status.result ∧
      (t.status.result = .ok →
        m = { t with status := { t.status with rearm := decide (s.mode = 0b01#2 ∨ s.mode = 0b10#2) } })

/-! ### Rules over all commands -/

/-- R246: after any command `REARM` is 1 exactly when it was a successful `MEASURE` in forced mode. -/
def Obligations.RearmOnlyAfterForcedMeasure : Prop :=
  ∀ (i : Instr) (s t : State), exec i s = .next t →
    (t.status.rearm = true ↔ i = .measure ∧ t.status.result = .ok ∧ (s.mode = 0b01#2 ∨ s.mode = 0b10#2))

/-- R45: an output register changes only by a command that succeeds: a failing command never writes one, and neither does a
host write. -/
def Obligations.FailingCommandKeepsOutputs : Prop :=
  (∀ (i : Instr) (s t : State), exec i s = .next t → t.status.result ≠ .ok → t.outputs = s.outputs) ∧
  ∀ (s : State) (r : Reg) (v : Word), (storeReg s r v).outputs = s.outputs

/-- The "written by" column of the register table: apart from `SRESET`, no command but those it names changes a register, and
no command changes the host's inputs. -/
def Obligations.OnlyTheNamedCommandsWrite : Prop :=
  ∀ (i : Instr) (s t : State), i ≠ .sreset → exec i s = .next t →
    (t.temp ≠ s.temp → i = .compT ∨ i = .measure) ∧
    (t.press ≠ s.press → i = .compP ∨ i = .measure) ∧
    (t.hum ≠ s.hum → i = .compH ∨ i = .measure) ∧
    (t.slp ≠ s.slp → i = .sealevel ∨ i = .measure) ∧
    (t.avgT ≠ s.avgT → i = .avgT ∨ i = .avgClr ∨ i = .measure) ∧
    (t.avgH ≠ s.avgH → i = .avgH ∨ i = .avgClr ∨ i = .measure) ∧
    (t.bound ≠ s.bound → i = .chkBounds ∨ i = .compT ∨ i = .compP ∨ i = .compH ∨ i = .measure) ∧
    (t.adcP ≠ s.adcP ∨ t.adcT ≠ s.adcT ∨ t.adcH ≠ s.adcH → i = .unpack ∨ i = .measure) ∧
    (t.dig ≠ s.dig ∨ t.status.calValid ≠ s.status.calValid ∨ t.status.hcz ≠ s.status.hcz → i = .calLatch) ∧
    (t.status.tv ≠ s.status.tv → i = .compT ∨ i = .measure ∨ i = .calLatch) ∧
    (t.status.pv ≠ s.status.pv → i = .compP ∨ i = .measure ∨ i = .calLatch) ∧
    (t.status.hv ≠ s.status.hv → i = .compH ∨ i = .measure ∨ i = .calLatch) ∧
    t.calraw = s.calraw ∧ t.raw0 = s.raw0 ∧ t.raw1 = s.raw1 ∧ t.mode = s.mode ∧ t.sensorStatus = s.sensorStatus ∧
    t.port = s.port ∧ t.cfg = s.cfg

/-- The "raised by" column of the result codes: which commands can report which code. -/
def Obligations.ResultCodesRaisedBy : Prop :=
  ∀ (i : Instr) (s t : State), exec i s = .next t →
    match t.status.result with
    | .ok => True
    | .configError => isGated i = true
    | .sensorBusy => s.cfg.busyCheck = true ∧ (i = .chkBusy ∨ i = .measure)
    | .outOfRange => i = .chkBounds ∨ i = .compT ∨ i = .compP ∨ i = .compH ∨ i = .measure
    | .divByZero => i = .compP ∨ i = .measure
    | .calInvalid => i = .calLatch
    | .sequenceError => i = .compP ∨ i = .compH ∨ i = .sealevel ∨ i = .avgT ∨ i = .avgH
    | .illegalCmd => featurePresent s.cfg i = false

/-- R169: `DIVZ` is written only by a command that reaches the pressure step: 1 when the denominator is 0, 0 when the guard
passes; a command that fails earlier leaves it. -/
def Obligations.DivzWrittenOnlyAtThePressureStep : Prop :=
  ∀ (i : Instr) (s t : State), i ≠ .sreset → exec i s = .next t →
    if (i = .compP ∨ i = .measure) ∧ t.status.result = .divByZero then t.status.divz = true
    else if (i = .compP ∨ i = .measure) ∧ t.status.result = .ok then t.status.divz = false
    else t.status.divz = s.status.divz

/-- `SENSOR_STATUS` bits other than 3 and 0 are stored and ignored: a state that differs only in them gives the same next
state, but for those bits. -/
def Obligations.OtherSensorStatusBitsIgnored : Prop :=
  ∀ (i : Instr) (s t : State) (x : BitVec 8), i ≠ .sreset → x.getLsbD 3 = s.sensorStatus.getLsbD 3 →
    x.getLsbD 0 = s.sensorStatus.getLsbD 0 → exec i s = .next t →
    exec i { s with sensorStatus := x } = .next { t with sensorStatus := x }

/-- Calibration bytes 24 and 33..35, and in the reduced variant 25..35, are stored and ignored, and so are burst bytes 6 and 7
in the reduced variant. -/
def Obligations.UnusedStagingBytesIgnored : Prop :=
  (∀ (s t : State) (img : Vector Word 9),
    (∀ j : Nat, j < 24 ∨ (s.cfg.hasH = true ∧ 24 < j ∧ j < 33) → Exact.cb img j = Exact.cb s.calraw j) →
    exec .calLatch s = .next t → exec .calLatch { s with calraw := img } = .next { t with calraw := img }) ∧
  ∀ (s t : State) (w : Word), s.cfg.hasH = false → w.extractLsb' 0 16 = s.raw1.extractLsb' 0 16 →
    ∀ i ∈ [Instr.unpack, .measure], exec i s = .next t → exec i { s with raw1 := w } = .next { t with raw1 := w }

/-- R91: `LOADCAL` fills the calibration image and then latches it; `LOADRAW`, `SETADC` and `CONFIG_OK` expand to these
accesses. -/
def Obligations.PseudoInstructionsExpand : Prop :=
  (∀ (s : State) (b : List Byte), b.length = 33 →
    ∃ img : Vector Word 9, (∀ j : Nat, j < 36 → Exact.cb img j = (b.getD j 0).toNat) ∧
      serveAll ((AsmLine.loadCal b).expand) s = exec .calLatch { s with calraw := img }) ∧
  (∀ (s : State) (b : List Byte), b.length = 8 →
    ∃ r₀ r₁ : Word, (∀ j : Nat, j < 8 → Exact.bb r₀ r₁ j = (b.getD j 0).toNat) ∧
      serveAll ((AsmLine.loadRaw b).expand) s = .next { s with raw0 := r₀, raw1 := r₁ }) ∧
  (∀ (s : State) (t p h : Word),
    serveAll ((AsmLine.setAdc t p h).expand) s =
      .next
        { s with
          adcT := BitVec.ofNat 20 t.toNat
          adcP := BitVec.ofNat 20 p.toNat
          adcH := BitVec.ofNat 16 h.toNat }) ∧
  ∀ s : State, serveAll (AsmLine.configOk.expand) s = exec .errClr s

/-- A step of one engine never affects another: what R77 says, of the model's own joint step (a list of states, one of them
stepping: assumption 14, DESIGN CHOICE); a step that faults gives no joint state (assumption 21). -/
def Obligations.EnginesShareNothing : Prop :=
  ∀ (k : Nat) (es es' : List State), stepInstance k es = .next es' →
    es'.length = es.length ∧ (∀ j : Nat, j ≠ k → es'[j]? = es[j]?) ∧
      ∀ s : State, es[k]? = some s → ∃ t : State, step s = .next t ∧ es'[k]? = some t
end

