-- ==== Sys2Proof/Laws/Arith.lean ====
section
/-! SUPPORT. The machine's word arithmetic is the spec's arithmetic over exact integers (spec/00_scope.md R13-R15): one lemma per
operator, each pushing a reading of a word through the operation. -/

namespace Sys2Proof.Machine
open Sys2Proof.Exact

/-! ### The two readings of a word -/

theorem wrapS_eq_bmod (v : Int) : wrapS v = v.bmod (2 ^ 32) := by
  simp only [wrapS, Int.bmod]
  split <;> omega

theorem wrapS_of_range {v : Int} (h : -(2 ^ 31) ≤ v ∧ v < 2 ^ 31) : wrapS v = v := by
  simp only [wrapS]
  omega

theorem asS_range (w : Word) : -(2 ^ 31) ≤ asS w ∧ asS w < 2 ^ 31 := by
  have hlo := BitVec.le_toInt w
  have hhi := BitVec.toInt_lt (x := w)
  simp only [asS] at *
  omega

theorem asS_asU (v : Int) : asS (asU v) = wrapS v := by
  rw [wrapS_eq_bmod]
  exact BitVec.toInt_ofInt v

theorem asU_asS (w : Word) : asU (asS w) = w := BitVec.ofInt_toInt

theorem asU_of_asS {w : Word} {v : Int} (h : asS w = v) : asU v = w := by
  rw [← h, asU_asS]

theorem asU_toNat (w : Word) : asU (w.toNat : Int) = w := by
  simp [asU]

theorem asU_of_toNat {w : Word} {v : Int} (h : (w.toNat : Int) = v) : asU v = w := by
  rw [← h, asU_toNat]

theorem toNat_eq_wrapU (w : Word) : (w.toNat : Int) = wrapU (asS w) := by
  have := w.isLt
  simp only [wrapU, asS, BitVec.toInt_eq_toNat_cond]
  split <;> omega

theorem asS_eq_wrapS_toNat (w : Word) : asS w = wrapS w.toNat := by
  have := w.isLt
  simp only [wrapS, asS, BitVec.toInt_eq_toNat_cond]
  split <;> omega

/-- A field narrower than a word reads the same as a signed word. -/
theorem asS_setWidth {n : Nat} (x : BitVec n) (h : n < 32) : asS (x.setWidth 32) = (x.toNat : Int) := by
  have hx := x.isLt
  have hp : 2 ^ n ≤ 2 ^ 31 := Nat.pow_le_pow_right (by decide) (by omega)
  have hn : (x.setWidth 32).toNat = x.toNat := by
    rw [BitVec.toNat_setWidth]
    exact Nat.mod_eq_of_lt (by omega)
  rw [asS, BitVec.toInt_eq_toNat_of_lt (by omega), hn]

/-! ### Signed operators (R14) -/

theorem asS_add (a b : Word) : asS (a + b) = addS (asS a) (asS b) := by
  rw [addS, wrapS_eq_bmod]
  exact BitVec.toInt_add a b

theorem asS_sub (a b : Word) : asS (a - b) = subS (asS a) (asS b) := by
  rw [subS, wrapS_eq_bmod]
  exact BitVec.toInt_sub

theorem asS_mul (a b : Word) : asS (a * b) = mulS (asS a) (asS b) := by
  rw [mulS, wrapS_eq_bmod]
  exact BitVec.toInt_mul a b

theorem asS_sra (a : Word) (n : Nat) : asS (sra a n) = shr (asS a) n := by
  simp [sra, shr, BitVec.toInt_sshiftRight, Int.shiftRight_eq_div_pow]

/-- A left shift multiplies by the power of two, also when the power does not fit the word. -/
theorem asS_shiftLeft (a : Word) (n : Nat) : asS (a <<< n) = shlS (asS a) n := by
  have h : a <<< n = a * BitVec.ofNat 32 (2 ^ n) := by
    rw [BitVec.shiftLeft_eq_mul_twoPow]
    congr 1
    apply BitVec.eq_of_toNat_eq
    simp [BitVec.toNat_twoPow]
  rw [h, asS_mul, mulS, shlS, wrapS, wrapS]
  have e : asS (BitVec.ofNat 32 (2 ^ n)) = wrapS ((2 : Int) ^ n) := by
    rw [asS_eq_wrapS_toNat, BitVec.toNat_ofNat, wrapS, wrapS]
    push_cast
    omega
  have hmod : (asS a * wrapS ((2 : Int) ^ n) + 2 ^ 31) % 2 ^ 32 = (asS a * (2 : Int) ^ n + 2 ^ 31) % 2 ^ 32 := by
    apply Int.ModEq.add_right
    apply Int.ModEq.mul_left
    show wrapS ((2 : Int) ^ n) % 2 ^ 32 = (2 : Int) ^ n % 2 ^ 32
    rw [wrapS]
    omega
  rw [e, hmod]

theorem asS_clampS (v : Word) {lo hi : Int} (hlo : -(2 ^ 31) ≤ lo) (hhi : hi < 2 ^ 31) (h : lo ≤ hi) :
    asS (clampS v lo hi) = clamp (asS v) lo hi := by
  have := asS_range v
  rw [clampS, asS_asU, wrapS_of_range]
  · rfl
  · simp only [clampInt]
    omega

/-! ### Unsigned operators (R14) -/

theorem toNat_sub_word (a b : Word) : ((a - b).toNat : Int) = subU a.toNat b.toNat := by
  have := a.isLt
  have := b.isLt
  simp only [subU, wrapU, BitVec.toNat_sub]
  omega

theorem toNat_mul_word (a b : Word) : ((a * b).toNat : Int) = mulU a.toNat b.toNat := by
  simp [mulU, wrapU, BitVec.toNat_mul]

theorem toNat_shiftLeft_word (a : Word) (n : Nat) : ((a <<< n).toNat : Int) = shlU a.toNat n := by
  simp [shlU, wrapU, Nat.shiftLeft_eq]

theorem toNat_shiftRight_word (a : Word) (n : Nat) : ((a >>> n).toNat : Int) = shr a.toNat n := by
  simp [shr, Nat.shiftRight_eq_div_pow]

theorem toNat_div_word (a b : Word) : ((a / b).toNat : Int) = (a.toNat : Int) / b.toNat := by
  simp [BitVec.toNat_udiv]

end Sys2Proof.Machine
end

