-- ==== Sys2Proof/Laws/State.lean ====
section
/-! SUPPORT. Every field of the state after every one-field update: the lemmas that keep later proofs from unfolding a record
update. -/

namespace Sys2Proof.Machine

/-! ### `State.setPort` -/

section
variable (s : State) (x : Port)
@[simp] theorem State.setPort_cfg : (s.setPort x).cfg = s.cfg := rfl
@[simp] theorem State.setPort_port : (s.setPort x).port = x := rfl
@[simp] theorem State.setPort_status : (s.setPort x).status = s.status := rfl
@[simp] theorem State.setPort_err : (s.setPort x).err = s.err := rfl
@[simp] theorem State.setPort_sensorStatus : (s.setPort x).sensorStatus = s.sensorStatus := rfl
@[simp] theorem State.setPort_mode : (s.setPort x).mode = s.mode := rfl
@[simp] theorem State.setPort_bound : (s.setPort x).bound = s.bound := rfl
@[simp] theorem State.setPort_calraw : (s.setPort x).calraw = s.calraw := rfl
@[simp] theorem State.setPort_dig : (s.setPort x).dig = s.dig := rfl
@[simp] theorem State.setPort_raw0 : (s.setPort x).raw0 = s.raw0 := rfl
@[simp] theorem State.setPort_raw1 : (s.setPort x).raw1 = s.raw1 := rfl
@[simp] theorem State.setPort_adcP : (s.setPort x).adcP = s.adcP := rfl
@[simp] theorem State.setPort_adcT : (s.setPort x).adcT = s.adcT := rfl
@[simp] theorem State.setPort_adcH : (s.setPort x).adcH = s.adcH := rfl
@[simp] theorem State.setPort_temp : (s.setPort x).temp = s.temp := rfl
@[simp] theorem State.setPort_press : (s.setPort x).press = s.press := rfl
@[simp] theorem State.setPort_hum : (s.setPort x).hum = s.hum := rfl
@[simp] theorem State.setPort_slp : (s.setPort x).slp = s.slp := rfl
@[simp] theorem State.setPort_avgT : (s.setPort x).avgT = s.avgT := rfl
@[simp] theorem State.setPort_avgH : (s.setPort x).avgH = s.avgH := rfl
@[simp] theorem State.setPort_setPort (y : Port) : (s.setPort x).setPort y = s.setPort y := rfl
@[simp] theorem State.setPort_self : s.setPort s.port = s := rfl
end

/-! ### `State.setStatus` -/

section
variable (s : State) (x : Status)
@[simp] theorem State.setStatus_cfg : (s.setStatus x).cfg = s.cfg := rfl
@[simp] theorem State.setStatus_port : (s.setStatus x).port = s.port := rfl
@[simp] theorem State.setStatus_status : (s.setStatus x).status = x := rfl
@[simp] theorem State.setStatus_err : (s.setStatus x).err = s.err := rfl
@[simp] theorem State.setStatus_sensorStatus : (s.setStatus x).sensorStatus = s.sensorStatus := rfl
@[simp] theorem State.setStatus_mode : (s.setStatus x).mode = s.mode := rfl
@[simp] theorem State.setStatus_bound : (s.setStatus x).bound = s.bound := rfl
@[simp] theorem State.setStatus_calraw : (s.setStatus x).calraw = s.calraw := rfl
@[simp] theorem State.setStatus_dig : (s.setStatus x).dig = s.dig := rfl
@[simp] theorem State.setStatus_raw0 : (s.setStatus x).raw0 = s.raw0 := rfl
@[simp] theorem State.setStatus_raw1 : (s.setStatus x).raw1 = s.raw1 := rfl
@[simp] theorem State.setStatus_adcP : (s.setStatus x).adcP = s.adcP := rfl
@[simp] theorem State.setStatus_adcT : (s.setStatus x).adcT = s.adcT := rfl
@[simp] theorem State.setStatus_adcH : (s.setStatus x).adcH = s.adcH := rfl
@[simp] theorem State.setStatus_temp : (s.setStatus x).temp = s.temp := rfl
@[simp] theorem State.setStatus_press : (s.setStatus x).press = s.press := rfl
@[simp] theorem State.setStatus_hum : (s.setStatus x).hum = s.hum := rfl
@[simp] theorem State.setStatus_slp : (s.setStatus x).slp = s.slp := rfl
@[simp] theorem State.setStatus_avgT : (s.setStatus x).avgT = s.avgT := rfl
@[simp] theorem State.setStatus_avgH : (s.setStatus x).avgH = s.avgH := rfl
@[simp] theorem State.setStatus_setStatus (y : Status) : (s.setStatus x).setStatus y = s.setStatus y := rfl
@[simp] theorem State.setStatus_self : s.setStatus s.status = s := rfl
end

/-! ### `State.setErr` -/

section
variable (s : State) (x : BitVec 2)
@[simp] theorem State.setErr_cfg : (s.setErr x).cfg = s.cfg := rfl
@[simp] theorem State.setErr_port : (s.setErr x).port = s.port := rfl
@[simp] theorem State.setErr_status : (s.setErr x).status = s.status := rfl
@[simp] theorem State.setErr_err : (s.setErr x).err = x := rfl
@[simp] theorem State.setErr_sensorStatus : (s.setErr x).sensorStatus = s.sensorStatus := rfl
@[simp] theorem State.setErr_mode : (s.setErr x).mode = s.mode := rfl
@[simp] theorem State.setErr_bound : (s.setErr x).bound = s.bound := rfl
@[simp] theorem State.setErr_calraw : (s.setErr x).calraw = s.calraw := rfl
@[simp] theorem State.setErr_dig : (s.setErr x).dig = s.dig := rfl
@[simp] theorem State.setErr_raw0 : (s.setErr x).raw0 = s.raw0 := rfl
@[simp] theorem State.setErr_raw1 : (s.setErr x).raw1 = s.raw1 := rfl
@[simp] theorem State.setErr_adcP : (s.setErr x).adcP = s.adcP := rfl
@[simp] theorem State.setErr_adcT : (s.setErr x).adcT = s.adcT := rfl
@[simp] theorem State.setErr_adcH : (s.setErr x).adcH = s.adcH := rfl
@[simp] theorem State.setErr_temp : (s.setErr x).temp = s.temp := rfl
@[simp] theorem State.setErr_press : (s.setErr x).press = s.press := rfl
@[simp] theorem State.setErr_hum : (s.setErr x).hum = s.hum := rfl
@[simp] theorem State.setErr_slp : (s.setErr x).slp = s.slp := rfl
@[simp] theorem State.setErr_avgT : (s.setErr x).avgT = s.avgT := rfl
@[simp] theorem State.setErr_avgH : (s.setErr x).avgH = s.avgH := rfl
@[simp] theorem State.setErr_setErr (y : BitVec 2) : (s.setErr x).setErr y = s.setErr y := rfl
@[simp] theorem State.setErr_self : s.setErr s.err = s := rfl
end

/-! ### `State.setSensorStatus` -/

section
variable (s : State) (x : BitVec 8)
@[simp] theorem State.setSensorStatus_cfg : (s.setSensorStatus x).cfg = s.cfg := rfl
@[simp] theorem State.setSensorStatus_port : (s.setSensorStatus x).port = s.port := rfl
@[simp] theorem State.setSensorStatus_status : (s.setSensorStatus x).status = s.status := rfl
@[simp] theorem State.setSensorStatus_err : (s.setSensorStatus x).err = s.err := rfl
@[simp] theorem State.setSensorStatus_sensorStatus : (s.setSensorStatus x).sensorStatus = x := rfl
@[simp] theorem State.setSensorStatus_mode : (s.setSensorStatus x).mode = s.mode := rfl
@[simp] theorem State.setSensorStatus_bound : (s.setSensorStatus x).bound = s.bound := rfl
@[simp] theorem State.setSensorStatus_calraw : (s.setSensorStatus x).calraw = s.calraw := rfl
@[simp] theorem State.setSensorStatus_dig : (s.setSensorStatus x).dig = s.dig := rfl
@[simp] theorem State.setSensorStatus_raw0 : (s.setSensorStatus x).raw0 = s.raw0 := rfl
@[simp] theorem State.setSensorStatus_raw1 : (s.setSensorStatus x).raw1 = s.raw1 := rfl
@[simp] theorem State.setSensorStatus_adcP : (s.setSensorStatus x).adcP = s.adcP := rfl
@[simp] theorem State.setSensorStatus_adcT : (s.setSensorStatus x).adcT = s.adcT := rfl
@[simp] theorem State.setSensorStatus_adcH : (s.setSensorStatus x).adcH = s.adcH := rfl
@[simp] theorem State.setSensorStatus_temp : (s.setSensorStatus x).temp = s.temp := rfl
@[simp] theorem State.setSensorStatus_press : (s.setSensorStatus x).press = s.press := rfl
@[simp] theorem State.setSensorStatus_hum : (s.setSensorStatus x).hum = s.hum := rfl
@[simp] theorem State.setSensorStatus_slp : (s.setSensorStatus x).slp = s.slp := rfl
@[simp] theorem State.setSensorStatus_avgT : (s.setSensorStatus x).avgT = s.avgT := rfl
@[simp] theorem State.setSensorStatus_avgH : (s.setSensorStatus x).avgH = s.avgH := rfl
@[simp] theorem State.setSensorStatus_setSensorStatus (y : BitVec 8) : (s.setSensorStatus x).setSensorStatus y = s.setSensorStatus y := rfl
@[simp] theorem State.setSensorStatus_self : s.setSensorStatus s.sensorStatus = s := rfl
end

/-! ### `State.setMode` -/

section
variable (s : State) (x : BitVec 2)
@[simp] theorem State.setMode_cfg : (s.setMode x).cfg = s.cfg := rfl
@[simp] theorem State.setMode_port : (s.setMode x).port = s.port := rfl
@[simp] theorem State.setMode_status : (s.setMode x).status = s.status := rfl
@[simp] theorem State.setMode_err : (s.setMode x).err = s.err := rfl
@[simp] theorem State.setMode_sensorStatus : (s.setMode x).sensorStatus = s.sensorStatus := rfl
@[simp] theorem State.setMode_mode : (s.setMode x).mode = x := rfl
@[simp] theorem State.setMode_bound : (s.setMode x).bound = s.bound := rfl
@[simp] theorem State.setMode_calraw : (s.setMode x).calraw = s.calraw := rfl
@[simp] theorem State.setMode_dig : (s.setMode x).dig = s.dig := rfl
@[simp] theorem State.setMode_raw0 : (s.setMode x).raw0 = s.raw0 := rfl
@[simp] theorem State.setMode_raw1 : (s.setMode x).raw1 = s.raw1 := rfl
@[simp] theorem State.setMode_adcP : (s.setMode x).adcP = s.adcP := rfl
@[simp] theorem State.setMode_adcT : (s.setMode x).adcT = s.adcT := rfl
@[simp] theorem State.setMode_adcH : (s.setMode x).adcH = s.adcH := rfl
@[simp] theorem State.setMode_temp : (s.setMode x).temp = s.temp := rfl
@[simp] theorem State.setMode_press : (s.setMode x).press = s.press := rfl
@[simp] theorem State.setMode_hum : (s.setMode x).hum = s.hum := rfl
@[simp] theorem State.setMode_slp : (s.setMode x).slp = s.slp := rfl
@[simp] theorem State.setMode_avgT : (s.setMode x).avgT = s.avgT := rfl
@[simp] theorem State.setMode_avgH : (s.setMode x).avgH = s.avgH := rfl
@[simp] theorem State.setMode_setMode (y : BitVec 2) : (s.setMode x).setMode y = s.setMode y := rfl
@[simp] theorem State.setMode_self : s.setMode s.mode = s := rfl
end

/-! ### `State.setBound` -/

section
variable (s : State) (x : Bound)
@[simp] theorem State.setBound_cfg : (s.setBound x).cfg = s.cfg := rfl
@[simp] theorem State.setBound_port : (s.setBound x).port = s.port := rfl
@[simp] theorem State.setBound_status : (s.setBound x).status = s.status := rfl
@[simp] theorem State.setBound_err : (s.setBound x).err = s.err := rfl
@[simp] theorem State.setBound_sensorStatus : (s.setBound x).sensorStatus = s.sensorStatus := rfl
@[simp] theorem State.setBound_mode : (s.setBound x).mode = s.mode := rfl
@[simp] theorem State.setBound_bound : (s.setBound x).bound = x := rfl
@[simp] theorem State.setBound_calraw : (s.setBound x).calraw = s.calraw := rfl
@[simp] theorem State.setBound_dig : (s.setBound x).dig = s.dig := rfl
@[simp] theorem State.setBound_raw0 : (s.setBound x).raw0 = s.raw0 := rfl
@[simp] theorem State.setBound_raw1 : (s.setBound x).raw1 = s.raw1 := rfl
@[simp] theorem State.setBound_adcP : (s.setBound x).adcP = s.adcP := rfl
@[simp] theorem State.setBound_adcT : (s.setBound x).adcT = s.adcT := rfl
@[simp] theorem State.setBound_adcH : (s.setBound x).adcH = s.adcH := rfl
@[simp] theorem State.setBound_temp : (s.setBound x).temp = s.temp := rfl
@[simp] theorem State.setBound_press : (s.setBound x).press = s.press := rfl
@[simp] theorem State.setBound_hum : (s.setBound x).hum = s.hum := rfl
@[simp] theorem State.setBound_slp : (s.setBound x).slp = s.slp := rfl
@[simp] theorem State.setBound_avgT : (s.setBound x).avgT = s.avgT := rfl
@[simp] theorem State.setBound_avgH : (s.setBound x).avgH = s.avgH := rfl
@[simp] theorem State.setBound_setBound (y : Bound) : (s.setBound x).setBound y = s.setBound y := rfl
@[simp] theorem State.setBound_self : s.setBound s.bound = s := rfl
end

/-! ### `State.setCalraw` -/

section
variable (s : State) (x : Vector Word 9)
@[simp] theorem State.setCalraw_cfg : (s.setCalraw x).cfg = s.cfg := rfl
@[simp] theorem State.setCalraw_port : (s.setCalraw x).port = s.port := rfl
@[simp] theorem State.setCalraw_status : (s.setCalraw x).status = s.status := rfl
@[simp] theorem State.setCalraw_err : (s.setCalraw x).err = s.err := rfl
@[simp] theorem State.setCalraw_sensorStatus : (s.setCalraw x).sensorStatus = s.sensorStatus := rfl
@[simp] theorem State.setCalraw_mode : (s.setCalraw x).mode = s.mode := rfl
@[simp] theorem State.setCalraw_bound : (s.setCalraw x).bound = s.bound := rfl
@[simp] theorem State.setCalraw_calraw : (s.setCalraw x).calraw = x := rfl
@[simp] theorem State.setCalraw_dig : (s.setCalraw x).dig = s.dig := rfl
@[simp] theorem State.setCalraw_raw0 : (s.setCalraw x).raw0 = s.raw0 := rfl
@[simp] theorem State.setCalraw_raw1 : (s.setCalraw x).raw1 = s.raw1 := rfl
@[simp] theorem State.setCalraw_adcP : (s.setCalraw x).adcP = s.adcP := rfl
@[simp] theorem State.setCalraw_adcT : (s.setCalraw x).adcT = s.adcT := rfl
@[simp] theorem State.setCalraw_adcH : (s.setCalraw x).adcH = s.adcH := rfl
@[simp] theorem State.setCalraw_temp : (s.setCalraw x).temp = s.temp := rfl
@[simp] theorem State.setCalraw_press : (s.setCalraw x).press = s.press := rfl
@[simp] theorem State.setCalraw_hum : (s.setCalraw x).hum = s.hum := rfl
@[simp] theorem State.setCalraw_slp : (s.setCalraw x).slp = s.slp := rfl
@[simp] theorem State.setCalraw_avgT : (s.setCalraw x).avgT = s.avgT := rfl
@[simp] theorem State.setCalraw_avgH : (s.setCalraw x).avgH = s.avgH := rfl
@[simp] theorem State.setCalraw_setCalraw (y : Vector Word 9) : (s.setCalraw x).setCalraw y = s.setCalraw y := rfl
@[simp] theorem State.setCalraw_self : s.setCalraw s.calraw = s := rfl
end

/-! ### `State.setDig` -/

section
variable (s : State) (x : CoeffSet Word)
@[simp] theorem State.setDig_cfg : (s.setDig x).cfg = s.cfg := rfl
@[simp] theorem State.setDig_port : (s.setDig x).port = s.port := rfl
@[simp] theorem State.setDig_status : (s.setDig x).status = s.status := rfl
@[simp] theorem State.setDig_err : (s.setDig x).err = s.err := rfl
@[simp] theorem State.setDig_sensorStatus : (s.setDig x).sensorStatus = s.sensorStatus := rfl
@[simp] theorem State.setDig_mode : (s.setDig x).mode = s.mode := rfl
@[simp] theorem State.setDig_bound : (s.setDig x).bound = s.bound := rfl
@[simp] theorem State.setDig_calraw : (s.setDig x).calraw = s.calraw := rfl
@[simp] theorem State.setDig_dig : (s.setDig x).dig = x := rfl
@[simp] theorem State.setDig_raw0 : (s.setDig x).raw0 = s.raw0 := rfl
@[simp] theorem State.setDig_raw1 : (s.setDig x).raw1 = s.raw1 := rfl
@[simp] theorem State.setDig_adcP : (s.setDig x).adcP = s.adcP := rfl
@[simp] theorem State.setDig_adcT : (s.setDig x).adcT = s.adcT := rfl
@[simp] theorem State.setDig_adcH : (s.setDig x).adcH = s.adcH := rfl
@[simp] theorem State.setDig_temp : (s.setDig x).temp = s.temp := rfl
@[simp] theorem State.setDig_press : (s.setDig x).press = s.press := rfl
@[simp] theorem State.setDig_hum : (s.setDig x).hum = s.hum := rfl
@[simp] theorem State.setDig_slp : (s.setDig x).slp = s.slp := rfl
@[simp] theorem State.setDig_avgT : (s.setDig x).avgT = s.avgT := rfl
@[simp] theorem State.setDig_avgH : (s.setDig x).avgH = s.avgH := rfl
@[simp] theorem State.setDig_setDig (y : CoeffSet Word) : (s.setDig x).setDig y = s.setDig y := rfl
@[simp] theorem State.setDig_self : s.setDig s.dig = s := rfl
end

/-! ### `State.setRaw0` -/

section
variable (s : State) (x : Word)
@[simp] theorem State.setRaw0_cfg : (s.setRaw0 x).cfg = s.cfg := rfl
@[simp] theorem State.setRaw0_port : (s.setRaw0 x).port = s.port := rfl
@[simp] theorem State.setRaw0_status : (s.setRaw0 x).status = s.status := rfl
@[simp] theorem State.setRaw0_err : (s.setRaw0 x).err = s.err := rfl
@[simp] theorem State.setRaw0_sensorStatus : (s.setRaw0 x).sensorStatus = s.sensorStatus := rfl
@[simp] theorem State.setRaw0_mode : (s.setRaw0 x).mode = s.mode := rfl
@[simp] theorem State.setRaw0_bound : (s.setRaw0 x).bound = s.bound := rfl
@[simp] theorem State.setRaw0_calraw : (s.setRaw0 x).calraw = s.calraw := rfl
@[simp] theorem State.setRaw0_dig : (s.setRaw0 x).dig = s.dig := rfl
@[simp] theorem State.setRaw0_raw0 : (s.setRaw0 x).raw0 = x := rfl
@[simp] theorem State.setRaw0_raw1 : (s.setRaw0 x).raw1 = s.raw1 := rfl
@[simp] theorem State.setRaw0_adcP : (s.setRaw0 x).adcP = s.adcP := rfl
@[simp] theorem State.setRaw0_adcT : (s.setRaw0 x).adcT = s.adcT := rfl
@[simp] theorem State.setRaw0_adcH : (s.setRaw0 x).adcH = s.adcH := rfl
@[simp] theorem State.setRaw0_temp : (s.setRaw0 x).temp = s.temp := rfl
@[simp] theorem State.setRaw0_press : (s.setRaw0 x).press = s.press := rfl
@[simp] theorem State.setRaw0_hum : (s.setRaw0 x).hum = s.hum := rfl
@[simp] theorem State.setRaw0_slp : (s.setRaw0 x).slp = s.slp := rfl
@[simp] theorem State.setRaw0_avgT : (s.setRaw0 x).avgT = s.avgT := rfl
@[simp] theorem State.setRaw0_avgH : (s.setRaw0 x).avgH = s.avgH := rfl
@[simp] theorem State.setRaw0_setRaw0 (y : Word) : (s.setRaw0 x).setRaw0 y = s.setRaw0 y := rfl
@[simp] theorem State.setRaw0_self : s.setRaw0 s.raw0 = s := rfl
end

/-! ### `State.setRaw1` -/

section
variable (s : State) (x : Word)
@[simp] theorem State.setRaw1_cfg : (s.setRaw1 x).cfg = s.cfg := rfl
@[simp] theorem State.setRaw1_port : (s.setRaw1 x).port = s.port := rfl
@[simp] theorem State.setRaw1_status : (s.setRaw1 x).status = s.status := rfl
@[simp] theorem State.setRaw1_err : (s.setRaw1 x).err = s.err := rfl
@[simp] theorem State.setRaw1_sensorStatus : (s.setRaw1 x).sensorStatus = s.sensorStatus := rfl
@[simp] theorem State.setRaw1_mode : (s.setRaw1 x).mode = s.mode := rfl
@[simp] theorem State.setRaw1_bound : (s.setRaw1 x).bound = s.bound := rfl
@[simp] theorem State.setRaw1_calraw : (s.setRaw1 x).calraw = s.calraw := rfl
@[simp] theorem State.setRaw1_dig : (s.setRaw1 x).dig = s.dig := rfl
@[simp] theorem State.setRaw1_raw0 : (s.setRaw1 x).raw0 = s.raw0 := rfl
@[simp] theorem State.setRaw1_raw1 : (s.setRaw1 x).raw1 = x := rfl
@[simp] theorem State.setRaw1_adcP : (s.setRaw1 x).adcP = s.adcP := rfl
@[simp] theorem State.setRaw1_adcT : (s.setRaw1 x).adcT = s.adcT := rfl
@[simp] theorem State.setRaw1_adcH : (s.setRaw1 x).adcH = s.adcH := rfl
@[simp] theorem State.setRaw1_temp : (s.setRaw1 x).temp = s.temp := rfl
@[simp] theorem State.setRaw1_press : (s.setRaw1 x).press = s.press := rfl
@[simp] theorem State.setRaw1_hum : (s.setRaw1 x).hum = s.hum := rfl
@[simp] theorem State.setRaw1_slp : (s.setRaw1 x).slp = s.slp := rfl
@[simp] theorem State.setRaw1_avgT : (s.setRaw1 x).avgT = s.avgT := rfl
@[simp] theorem State.setRaw1_avgH : (s.setRaw1 x).avgH = s.avgH := rfl
@[simp] theorem State.setRaw1_setRaw1 (y : Word) : (s.setRaw1 x).setRaw1 y = s.setRaw1 y := rfl
@[simp] theorem State.setRaw1_self : s.setRaw1 s.raw1 = s := rfl
end

/-! ### `State.setAdcP` -/

section
variable (s : State) (x : BitVec 20)
@[simp] theorem State.setAdcP_cfg : (s.setAdcP x).cfg = s.cfg := rfl
@[simp] theorem State.setAdcP_port : (s.setAdcP x).port = s.port := rfl
@[simp] theorem State.setAdcP_status : (s.setAdcP x).status = s.status := rfl
@[simp] theorem State.setAdcP_err : (s.setAdcP x).err = s.err := rfl
@[simp] theorem State.setAdcP_sensorStatus : (s.setAdcP x).sensorStatus = s.sensorStatus := rfl
@[simp] theorem State.setAdcP_mode : (s.setAdcP x).mode = s.mode := rfl
@[simp] theorem State.setAdcP_bound : (s.setAdcP x).bound = s.bound := rfl
@[simp] theorem State.setAdcP_calraw : (s.setAdcP x).calraw = s.calraw := rfl
@[simp] theorem State.setAdcP_dig : (s.setAdcP x).dig = s.dig := rfl
@[simp] theorem State.setAdcP_raw0 : (s.setAdcP x).raw0 = s.raw0 := rfl
@[simp] theorem State.setAdcP_raw1 : (s.setAdcP x).raw1 = s.raw1 := rfl
@[simp] theorem State.setAdcP_adcP : (s.setAdcP x).adcP = x := rfl
@[simp] theorem State.setAdcP_adcT : (s.setAdcP x).adcT = s.adcT := rfl
@[simp] theorem State.setAdcP_adcH : (s.setAdcP x).adcH = s.adcH := rfl
@[simp] theorem State.setAdcP_temp : (s.setAdcP x).temp = s.temp := rfl
@[simp] theorem State.setAdcP_press : (s.setAdcP x).press = s.press := rfl
@[simp] theorem State.setAdcP_hum : (s.setAdcP x).hum = s.hum := rfl
@[simp] theorem State.setAdcP_slp : (s.setAdcP x).slp = s.slp := rfl
@[simp] theorem State.setAdcP_avgT : (s.setAdcP x).avgT = s.avgT := rfl
@[simp] theorem State.setAdcP_avgH : (s.setAdcP x).avgH = s.avgH := rfl
@[simp] theorem State.setAdcP_setAdcP (y : BitVec 20) : (s.setAdcP x).setAdcP y = s.setAdcP y := rfl
@[simp] theorem State.setAdcP_self : s.setAdcP s.adcP = s := rfl
end

/-! ### `State.setAdcT` -/

section
variable (s : State) (x : BitVec 20)
@[simp] theorem State.setAdcT_cfg : (s.setAdcT x).cfg = s.cfg := rfl
@[simp] theorem State.setAdcT_port : (s.setAdcT x).port = s.port := rfl
@[simp] theorem State.setAdcT_status : (s.setAdcT x).status = s.status := rfl
@[simp] theorem State.setAdcT_err : (s.setAdcT x).err = s.err := rfl
@[simp] theorem State.setAdcT_sensorStatus : (s.setAdcT x).sensorStatus = s.sensorStatus := rfl
@[simp] theorem State.setAdcT_mode : (s.setAdcT x).mode = s.mode := rfl
@[simp] theorem State.setAdcT_bound : (s.setAdcT x).bound = s.bound := rfl
@[simp] theorem State.setAdcT_calraw : (s.setAdcT x).calraw = s.calraw := rfl
@[simp] theorem State.setAdcT_dig : (s.setAdcT x).dig = s.dig := rfl
@[simp] theorem State.setAdcT_raw0 : (s.setAdcT x).raw0 = s.raw0 := rfl
@[simp] theorem State.setAdcT_raw1 : (s.setAdcT x).raw1 = s.raw1 := rfl
@[simp] theorem State.setAdcT_adcP : (s.setAdcT x).adcP = s.adcP := rfl
@[simp] theorem State.setAdcT_adcT : (s.setAdcT x).adcT = x := rfl
@[simp] theorem State.setAdcT_adcH : (s.setAdcT x).adcH = s.adcH := rfl
@[simp] theorem State.setAdcT_temp : (s.setAdcT x).temp = s.temp := rfl
@[simp] theorem State.setAdcT_press : (s.setAdcT x).press = s.press := rfl
@[simp] theorem State.setAdcT_hum : (s.setAdcT x).hum = s.hum := rfl
@[simp] theorem State.setAdcT_slp : (s.setAdcT x).slp = s.slp := rfl
@[simp] theorem State.setAdcT_avgT : (s.setAdcT x).avgT = s.avgT := rfl
@[simp] theorem State.setAdcT_avgH : (s.setAdcT x).avgH = s.avgH := rfl
@[simp] theorem State.setAdcT_setAdcT (y : BitVec 20) : (s.setAdcT x).setAdcT y = s.setAdcT y := rfl
@[simp] theorem State.setAdcT_self : s.setAdcT s.adcT = s := rfl
end

/-! ### `State.setAdcH` -/

section
variable (s : State) (x : BitVec 16)
@[simp] theorem State.setAdcH_cfg : (s.setAdcH x).cfg = s.cfg := rfl
@[simp] theorem State.setAdcH_port : (s.setAdcH x).port = s.port := rfl
@[simp] theorem State.setAdcH_status : (s.setAdcH x).status = s.status := rfl
@[simp] theorem State.setAdcH_err : (s.setAdcH x).err = s.err := rfl
@[simp] theorem State.setAdcH_sensorStatus : (s.setAdcH x).sensorStatus = s.sensorStatus := rfl
@[simp] theorem State.setAdcH_mode : (s.setAdcH x).mode = s.mode := rfl
@[simp] theorem State.setAdcH_bound : (s.setAdcH x).bound = s.bound := rfl
@[simp] theorem State.setAdcH_calraw : (s.setAdcH x).calraw = s.calraw := rfl
@[simp] theorem State.setAdcH_dig : (s.setAdcH x).dig = s.dig := rfl
@[simp] theorem State.setAdcH_raw0 : (s.setAdcH x).raw0 = s.raw0 := rfl
@[simp] theorem State.setAdcH_raw1 : (s.setAdcH x).raw1 = s.raw1 := rfl
@[simp] theorem State.setAdcH_adcP : (s.setAdcH x).adcP = s.adcP := rfl
@[simp] theorem State.setAdcH_adcT : (s.setAdcH x).adcT = s.adcT := rfl
@[simp] theorem State.setAdcH_adcH : (s.setAdcH x).adcH = x := rfl
@[simp] theorem State.setAdcH_temp : (s.setAdcH x).temp = s.temp := rfl
@[simp] theorem State.setAdcH_press : (s.setAdcH x).press = s.press := rfl
@[simp] theorem State.setAdcH_hum : (s.setAdcH x).hum = s.hum := rfl
@[simp] theorem State.setAdcH_slp : (s.setAdcH x).slp = s.slp := rfl
@[simp] theorem State.setAdcH_avgT : (s.setAdcH x).avgT = s.avgT := rfl
@[simp] theorem State.setAdcH_avgH : (s.setAdcH x).avgH = s.avgH := rfl
@[simp] theorem State.setAdcH_setAdcH (y : BitVec 16) : (s.setAdcH x).setAdcH y = s.setAdcH y := rfl
@[simp] theorem State.setAdcH_self : s.setAdcH s.adcH = s := rfl
end

/-! ### `State.setTemp` -/

section
variable (s : State) (x : TempOut)
@[simp] theorem State.setTemp_cfg : (s.setTemp x).cfg = s.cfg := rfl
@[simp] theorem State.setTemp_port : (s.setTemp x).port = s.port := rfl
@[simp] theorem State.setTemp_status : (s.setTemp x).status = s.status := rfl
@[simp] theorem State.setTemp_err : (s.setTemp x).err = s.err := rfl
@[simp] theorem State.setTemp_sensorStatus : (s.setTemp x).sensorStatus = s.sensorStatus := rfl
@[simp] theorem State.setTemp_mode : (s.setTemp x).mode = s.mode := rfl
@[simp] theorem State.setTemp_bound : (s.setTemp x).bound = s.bound := rfl
@[simp] theorem State.setTemp_calraw : (s.setTemp x).calraw = s.calraw := rfl
@[simp] theorem State.setTemp_dig : (s.setTemp x).dig = s.dig := rfl
@[simp] theorem State.setTemp_raw0 : (s.setTemp x).raw0 = s.raw0 := rfl
@[simp] theorem State.setTemp_raw1 : (s.setTemp x).raw1 = s.raw1 := rfl
@[simp] theorem State.setTemp_adcP : (s.setTemp x).adcP = s.adcP := rfl
@[simp] theorem State.setTemp_adcT : (s.setTemp x).adcT = s.adcT := rfl
@[simp] theorem State.setTemp_adcH : (s.setTemp x).adcH = s.adcH := rfl
@[simp] theorem State.setTemp_temp : (s.setTemp x).temp = x := rfl
@[simp] theorem State.setTemp_press : (s.setTemp x).press = s.press := rfl
@[simp] theorem State.setTemp_hum : (s.setTemp x).hum = s.hum := rfl
@[simp] theorem State.setTemp_slp : (s.setTemp x).slp = s.slp := rfl
@[simp] theorem State.setTemp_avgT : (s.setTemp x).avgT = s.avgT := rfl
@[simp] theorem State.setTemp_avgH : (s.setTemp x).avgH = s.avgH := rfl
@[simp] theorem State.setTemp_setTemp (y : TempOut) : (s.setTemp x).setTemp y = s.setTemp y := rfl
@[simp] theorem State.setTemp_self : s.setTemp s.temp = s := rfl
end

/-! ### `State.setPress` -/

section
variable (s : State) (x : PressOut)
@[simp] theorem State.setPress_cfg : (s.setPress x).cfg = s.cfg := rfl
@[simp] theorem State.setPress_port : (s.setPress x).port = s.port := rfl
@[simp] theorem State.setPress_status : (s.setPress x).status = s.status := rfl
@[simp] theorem State.setPress_err : (s.setPress x).err = s.err := rfl
@[simp] theorem State.setPress_sensorStatus : (s.setPress x).sensorStatus = s.sensorStatus := rfl
@[simp] theorem State.setPress_mode : (s.setPress x).mode = s.mode := rfl
@[simp] theorem State.setPress_bound : (s.setPress x).bound = s.bound := rfl
@[simp] theorem State.setPress_calraw : (s.setPress x).calraw = s.calraw := rfl
@[simp] theorem State.setPress_dig : (s.setPress x).dig = s.dig := rfl
@[simp] theorem State.setPress_raw0 : (s.setPress x).raw0 = s.raw0 := rfl
@[simp] theorem State.setPress_raw1 : (s.setPress x).raw1 = s.raw1 := rfl
@[simp] theorem State.setPress_adcP : (s.setPress x).adcP = s.adcP := rfl
@[simp] theorem State.setPress_adcT : (s.setPress x).adcT = s.adcT := rfl
@[simp] theorem State.setPress_adcH : (s.setPress x).adcH = s.adcH := rfl
@[simp] theorem State.setPress_temp : (s.setPress x).temp = s.temp := rfl
@[simp] theorem State.setPress_press : (s.setPress x).press = x := rfl
@[simp] theorem State.setPress_hum : (s.setPress x).hum = s.hum := rfl
@[simp] theorem State.setPress_slp : (s.setPress x).slp = s.slp := rfl
@[simp] theorem State.setPress_avgT : (s.setPress x).avgT = s.avgT := rfl
@[simp] theorem State.setPress_avgH : (s.setPress x).avgH = s.avgH := rfl
@[simp] theorem State.setPress_setPress (y : PressOut) : (s.setPress x).setPress y = s.setPress y := rfl
@[simp] theorem State.setPress_self : s.setPress s.press = s := rfl
end

/-! ### `State.setHum` -/

section
variable (s : State) (x : HumOut)
@[simp] theorem State.setHum_cfg : (s.setHum x).cfg = s.cfg := rfl
@[simp] theorem State.setHum_port : (s.setHum x).port = s.port := rfl
@[simp] theorem State.setHum_status : (s.setHum x).status = s.status := rfl
@[simp] theorem State.setHum_err : (s.setHum x).err = s.err := rfl
@[simp] theorem State.setHum_sensorStatus : (s.setHum x).sensorStatus = s.sensorStatus := rfl
@[simp] theorem State.setHum_mode : (s.setHum x).mode = s.mode := rfl
@[simp] theorem State.setHum_bound : (s.setHum x).bound = s.bound := rfl
@[simp] theorem State.setHum_calraw : (s.setHum x).calraw = s.calraw := rfl
@[simp] theorem State.setHum_dig : (s.setHum x).dig = s.dig := rfl
@[simp] theorem State.setHum_raw0 : (s.setHum x).raw0 = s.raw0 := rfl
@[simp] theorem State.setHum_raw1 : (s.setHum x).raw1 = s.raw1 := rfl
@[simp] theorem State.setHum_adcP : (s.setHum x).adcP = s.adcP := rfl
@[simp] theorem State.setHum_adcT : (s.setHum x).adcT = s.adcT := rfl
@[simp] theorem State.setHum_adcH : (s.setHum x).adcH = s.adcH := rfl
@[simp] theorem State.setHum_temp : (s.setHum x).temp = s.temp := rfl
@[simp] theorem State.setHum_press : (s.setHum x).press = s.press := rfl
@[simp] theorem State.setHum_hum : (s.setHum x).hum = x := rfl
@[simp] theorem State.setHum_slp : (s.setHum x).slp = s.slp := rfl
@[simp] theorem State.setHum_avgT : (s.setHum x).avgT = s.avgT := rfl
@[simp] theorem State.setHum_avgH : (s.setHum x).avgH = s.avgH := rfl
@[simp] theorem State.setHum_setHum (y : HumOut) : (s.setHum x).setHum y = s.setHum y := rfl
@[simp] theorem State.setHum_self : s.setHum s.hum = s := rfl
end

/-! ### `State.setSlp` -/

section
variable (s : State) (x : Word)
@[simp] theorem State.setSlp_cfg : (s.setSlp x).cfg = s.cfg := rfl
@[simp] theorem State.setSlp_port : (s.setSlp x).port = s.port := rfl
@[simp] theorem State.setSlp_status : (s.setSlp x).status = s.status := rfl
@[simp] theorem State.setSlp_err : (s.setSlp x).err = s.err := rfl
@[simp] theorem State.setSlp_sensorStatus : (s.setSlp x).sensorStatus = s.sensorStatus := rfl
@[simp] theorem State.setSlp_mode : (s.setSlp x).mode = s.mode := rfl
@[simp] theorem State.setSlp_bound : (s.setSlp x).bound = s.bound := rfl
@[simp] theorem State.setSlp_calraw : (s.setSlp x).calraw = s.calraw := rfl
@[simp] theorem State.setSlp_dig : (s.setSlp x).dig = s.dig := rfl
@[simp] theorem State.setSlp_raw0 : (s.setSlp x).raw0 = s.raw0 := rfl
@[simp] theorem State.setSlp_raw1 : (s.setSlp x).raw1 = s.raw1 := rfl
@[simp] theorem State.setSlp_adcP : (s.setSlp x).adcP = s.adcP := rfl
@[simp] theorem State.setSlp_adcT : (s.setSlp x).adcT = s.adcT := rfl
@[simp] theorem State.setSlp_adcH : (s.setSlp x).adcH = s.adcH := rfl
@[simp] theorem State.setSlp_temp : (s.setSlp x).temp = s.temp := rfl
@[simp] theorem State.setSlp_press : (s.setSlp x).press = s.press := rfl
@[simp] theorem State.setSlp_hum : (s.setSlp x).hum = s.hum := rfl
@[simp] theorem State.setSlp_slp : (s.setSlp x).slp = x := rfl
@[simp] theorem State.setSlp_avgT : (s.setSlp x).avgT = s.avgT := rfl
@[simp] theorem State.setSlp_avgH : (s.setSlp x).avgH = s.avgH := rfl
@[simp] theorem State.setSlp_setSlp (y : Word) : (s.setSlp x).setSlp y = s.setSlp y := rfl
@[simp] theorem State.setSlp_self : s.setSlp s.slp = s := rfl
end

/-! ### `State.setAvgT` -/

section
variable (s : State) (x : AvgChan)
@[simp] theorem State.setAvgT_cfg : (s.setAvgT x).cfg = s.cfg := rfl
@[simp] theorem State.setAvgT_port : (s.setAvgT x).port = s.port := rfl
@[simp] theorem State.setAvgT_status : (s.setAvgT x).status = s.status := rfl
@[simp] theorem State.setAvgT_err : (s.setAvgT x).err = s.err := rfl
@[simp] theorem State.setAvgT_sensorStatus : (s.setAvgT x).sensorStatus = s.sensorStatus := rfl
@[simp] theorem State.setAvgT_mode : (s.setAvgT x).mode = s.mode := rfl
@[simp] theorem State.setAvgT_bound : (s.setAvgT x).bound = s.bound := rfl
@[simp] theorem State.setAvgT_calraw : (s.setAvgT x).calraw = s.calraw := rfl
@[simp] theorem State.setAvgT_dig : (s.setAvgT x).dig = s.dig := rfl
@[simp] theorem State.setAvgT_raw0 : (s.setAvgT x).raw0 = s.raw0 := rfl
@[simp] theorem State.setAvgT_raw1 : (s.setAvgT x).raw1 = s.raw1 := rfl
@[simp] theorem State.setAvgT_adcP : (s.setAvgT x).adcP = s.adcP := rfl
@[simp] theorem State.setAvgT_adcT : (s.setAvgT x).adcT = s.adcT := rfl
@[simp] theorem State.setAvgT_adcH : (s.setAvgT x).adcH = s.adcH := rfl
@[simp] theorem State.setAvgT_temp : (s.setAvgT x).temp = s.temp := rfl
@[simp] theorem State.setAvgT_press : (s.setAvgT x).press = s.press := rfl
@[simp] theorem State.setAvgT_hum : (s.setAvgT x).hum = s.hum := rfl
@[simp] theorem State.setAvgT_slp : (s.setAvgT x).slp = s.slp := rfl
@[simp] theorem State.setAvgT_avgT : (s.setAvgT x).avgT = x := rfl
@[simp] theorem State.setAvgT_avgH : (s.setAvgT x).avgH = s.avgH := rfl
@[simp] theorem State.setAvgT_setAvgT (y : AvgChan) : (s.setAvgT x).setAvgT y = s.setAvgT y := rfl
@[simp] theorem State.setAvgT_self : s.setAvgT s.avgT = s := rfl
end

/-! ### `State.setAvgH` -/

section
variable (s : State) (x : AvgChan)
@[simp] theorem State.setAvgH_cfg : (s.setAvgH x).cfg = s.cfg := rfl
@[simp] theorem State.setAvgH_port : (s.setAvgH x).port = s.port := rfl
@[simp] theorem State.setAvgH_status : (s.setAvgH x).status = s.status := rfl
@[simp] theorem State.setAvgH_err : (s.setAvgH x).err = s.err := rfl
@[simp] theorem State.setAvgH_sensorStatus : (s.setAvgH x).sensorStatus = s.sensorStatus := rfl
@[simp] theorem State.setAvgH_mode : (s.setAvgH x).mode = s.mode := rfl
@[simp] theorem State.setAvgH_bound : (s.setAvgH x).bound = s.bound := rfl
@[simp] theorem State.setAvgH_calraw : (s.setAvgH x).calraw = s.calraw := rfl
@[simp] theorem State.setAvgH_dig : (s.setAvgH x).dig = s.dig := rfl
@[simp] theorem State.setAvgH_raw0 : (s.setAvgH x).raw0 = s.raw0 := rfl
@[simp] theorem State.setAvgH_raw1 : (s.setAvgH x).raw1 = s.raw1 := rfl
@[simp] theorem State.setAvgH_adcP : (s.setAvgH x).adcP = s.adcP := rfl
@[simp] theorem State.setAvgH_adcT : (s.setAvgH x).adcT = s.adcT := rfl
@[simp] theorem State.setAvgH_adcH : (s.setAvgH x).adcH = s.adcH := rfl
@[simp] theorem State.setAvgH_temp : (s.setAvgH x).temp = s.temp := rfl
@[simp] theorem State.setAvgH_press : (s.setAvgH x).press = s.press := rfl
@[simp] theorem State.setAvgH_hum : (s.setAvgH x).hum = s.hum := rfl
@[simp] theorem State.setAvgH_slp : (s.setAvgH x).slp = s.slp := rfl
@[simp] theorem State.setAvgH_avgT : (s.setAvgH x).avgT = s.avgT := rfl
@[simp] theorem State.setAvgH_avgH : (s.setAvgH x).avgH = x := rfl
@[simp] theorem State.setAvgH_setAvgH (y : AvgChan) : (s.setAvgH x).setAvgH y = s.setAvgH y := rfl
@[simp] theorem State.setAvgH_self : s.setAvgH s.avgH = s := rfl
end

end Sys2Proof.Machine
end

