-- ==== Sys2Proof/Laws/Ops.lean ====
section
/-! SUPPORT. What each shared operation does, said once: the completion of a command, the gate, the bound checks, the split, the
reset and the port. -/

namespace Sys2Proof.Machine

/-! ### The start of a command and the flag updates -/

section
variable (s : State) (b : Bool)
@[simp] theorem beginCmd_cfg : (beginCmd s).cfg = s.cfg := rfl
@[simp] theorem beginCmd_port : (beginCmd s).port = s.port := rfl
@[simp] theorem beginCmd_err : (beginCmd s).err = s.err := rfl
@[simp] theorem beginCmd_sensorStatus : (beginCmd s).sensorStatus = s.sensorStatus := rfl
@[simp] theorem beginCmd_mode : (beginCmd s).mode = s.mode := rfl
@[simp] theorem beginCmd_bound : (beginCmd s).bound = s.bound := rfl
@[simp] theorem beginCmd_calraw : (beginCmd s).calraw = s.calraw := rfl
@[simp] theorem beginCmd_dig : (beginCmd s).dig = s.dig := rfl
@[simp] theorem beginCmd_raw0 : (beginCmd s).raw0 = s.raw0 := rfl
@[simp] theorem beginCmd_raw1 : (beginCmd s).raw1 = s.raw1 := rfl
@[simp] theorem beginCmd_adcP : (beginCmd s).adcP = s.adcP := rfl
@[simp] theorem beginCmd_adcT : (beginCmd s).adcT = s.adcT := rfl
@[simp] theorem beginCmd_adcH : (beginCmd s).adcH = s.adcH := rfl
@[simp] theorem beginCmd_temp : (beginCmd s).temp = s.temp := rfl
@[simp] theorem beginCmd_press : (beginCmd s).press = s.press := rfl
@[simp] theorem beginCmd_hum : (beginCmd s).hum = s.hum := rfl
@[simp] theorem beginCmd_slp : (beginCmd s).slp = s.slp := rfl
@[simp] theorem beginCmd_avgT : (beginCmd s).avgT = s.avgT := rfl
@[simp] theorem beginCmd_avgH : (beginCmd s).avgH = s.avgH := rfl
@[simp] theorem beginCmd_status_result : (beginCmd s).status.result = s.status.result := rfl
@[simp] theorem beginCmd_status_divz : (beginCmd s).status.divz = s.status.divz := rfl
@[simp] theorem beginCmd_status_tv : (beginCmd s).status.tv = s.status.tv := rfl
@[simp] theorem beginCmd_status_pv : (beginCmd s).status.pv = s.status.pv := rfl
@[simp] theorem beginCmd_status_hv : (beginCmd s).status.hv = s.status.hv := rfl
@[simp] theorem beginCmd_status_calValid : (beginCmd s).status.calValid = s.status.calValid := rfl
@[simp] theorem beginCmd_status_hcz : (beginCmd s).status.hcz = s.status.hcz := rfl
@[simp] theorem beginCmd_status_rearm : (beginCmd s).status.rearm = false := rfl
theorem setDivz_eq : setDivz b s = s.setStatus { s.status with divz := b } := rfl
theorem setTv_eq : setTv b s = s.setStatus { s.status with tv := b } := rfl
theorem setPv_eq : setPv b s = s.setStatus { s.status with pv := b } := rfl
theorem setHv_eq : setHv b s = s.setStatus { s.status with hv := b } := rfl
theorem setRearm_eq : setRearm b s = s.setStatus { s.status with rearm := b } := rfl
end

/-! ### Reporting -/

/-- `finish` after `beginCmd` changes the report and nothing else. -/
theorem finish_beginCmd (c : ResultCode) (s : State) : finish c (beginCmd s) = .next (s.reported c) := rfl

theorem illegalWord_eq (s : State) : illegalWord s = .next (s.reported .illegalCmd) := rfl

/-- A completed command's next state, from the state it built. -/
theorem finish_eq_next {c : ResultCode} {s t : State} :
    finish c s = .next t ↔ t = s.setStatus { s.status with result := c } := by
  rw [finish, Host.Outcome.next.injEq]
  exact eq_comm

/-- `finish` always gives a next state, with that result. -/
theorem finish_next (c : ResultCode) (s : State) : ∃ t : State, finish c s = .next t ∧ t.status.result = c :=
  ⟨_, rfl, rfl⟩

/-- The gate of R120, after the first line of a command. -/
theorem gateClosed_beginCmd (s : State) : gateClosed (beginCmd s) = true ↔ s.Blocked := by
  simp [gateClosed, State.Blocked, beginCmd]

/-! ### Bounds -/

/-- The bound predicate is the spec's, for both policies. -/
theorem checkPair_eq (pol : BoundPolicy) (v lo hi : Nat) : checkPair pol v lo hi = Exact.pair pol v lo hi := by
  cases pol <;> simp [checkPair, Exact.pair]

/-- The value of `BOUND` is 0 exactly when no flag is 1. -/
theorem boundWord_eq_zero (b : Bound) : boundWord b = 0 ↔ b.any = false := by
  obtain ⟨⟨b1, b2⟩, ⟨b3, b4⟩, ⟨b5, b6⟩⟩ := b
  revert b1 b2 b3 b4 b5 b6
  decide

/-- The six flags as the spec's bound predicate gives them. -/
theorem checkAll_eq (s : State) :
    checkAll s = s.setBound
      { t := Exact.pair s.cfg.boundPolicy s.adcT.toNat s.cfg.tMin.toNat s.cfg.tMax.toNat
        p := Exact.pair s.cfg.boundPolicy s.adcP.toNat s.cfg.pMin.toNat s.cfg.pMax.toNat
        h :=
          if s.cfg.hasH = true then Exact.pair s.cfg.boundPolicy s.adcH.toNat s.cfg.hMin.toNat s.cfg.hMax.toNat
          else ⟨false, false⟩ } := by
  simp only [checkAll, checkT, checkP, checkH, checkPair_eq]
  rfl

/-! ### Outputs -/

theorem split_default (v : Int) : split .default v = splitDefault v := rfl

theorem split_custom (id : Nat) (v : Int) : split (.custom id) v = Config.customSplit id v := rfl

/-! ### Reset -/

@[simp] theorem applyReset_cfg (s : State) : (applyReset s).cfg = s.cfg := rfl

@[simp] theorem applyReset_port (s : State) : (applyReset s).port = s.port := rfl

/-- After a reset every register reads as after power-on. -/
theorem readReg_applyReset (s : State) (r : Reg) : readReg (applyReset s) r = readReg (State.powerOn s.cfg) r := by
  cases r <;> rfl

/-! ### Register reads and stores -/

/-- The port's own fields are no register. -/
theorem readReg_setPort (s : State) (x : Port) (r : Reg) : readReg (s.setPort x) r = readReg s r := by
  cases r <;> rfl

theorem storeReg_cfg (s : State) (r : Reg) (v : Word) : (storeReg s r v).cfg = s.cfg := by
  cases r <;> rfl

theorem storeReg_port (s : State) (r : Reg) (v : Word) : (storeReg s r v).port = s.port := by
  cases r <;> rfl

/-- A store changes no other register. -/
theorem readReg_storeReg_of_ne (s : State) {r r' : Reg} (v : Word) (h : r' ≠ r) :
    readReg (storeReg s r v) r' = readReg s r' := by
  cases r with
  | calraw k =>
    cases r' with
    | calraw k' =>
      have hk : k.val ≠ k'.val := fun e => h (congrArg Reg.calraw (Fin.ext e.symm))
      exact Vector.getElem_set_ne k.isLt k'.isLt hk
    | _ => rfl
  | sensorStatus => cases r' <;> first | contradiction | rfl
  | mode => cases r' <;> first | contradiction | rfl
  | raw0 => cases r' <;> first | contradiction | rfl
  | raw1 => cases r' <;> first | contradiction | rfl
  | adcP => cases r' <;> first | contradiction | rfl
  | adcT => cases r' <;> first | contradiction | rfl
  | adcH => cases r' <;> first | contradiction | rfl
  | _ => rfl

/-! ### Steps -/

/-- Serving a read. -/
theorem serve_read (s : State) (off : BitVec 10) (bytes : Nat) :
    serve (.read off bytes) s =
      match accessReg s.cfg off bytes with
      | .ok r => .next (returnData s (readReg s r))
      | .error f => .fault f := by
  simp only [serve, memRead]
  cases accessReg s.cfg off bytes <;> rfl

/-- Serving a write. -/
theorem serve_write (s : State) (off : BitVec 10) (bytes : Nat) (v : Word) :
    serve (.write off bytes v) s =
      match accessReg s.cfg off bytes with
      | .ok r => writeReg s r v
      | .error f => .fault f := rfl

theorem step_idle {s : State} (h : s.port.pending = []) : step s = .next s := by
  simp only [step, h]

theorem step_access {s : State} {a : Access} {rest : List Access} (h : s.port.pending = a :: rest) :
    step s = serve a (s.setPort { s.port with pending := rest }) := by
  simp only [step, h]

end Sys2Proof.Machine
end

