-- ==== Sys2Proof/Laws/Compensation.lean ====
section
/-! SUPPORT. The compensation pipelines over words compute the spec's formulas over exact integers: one lemma per pipeline. -/

namespace Sys2Proof.Machine
open Sys2Proof.Exact

/-! ### Temperature (spec/42_temperature.md R142-R145) -/

theorem compT_fst_eq (hasH : Bool) (c : CoeffSet Word) (adc : BitVec 20) :
    asS (compT hasH c adc).1 = tFine c adc.toNat := by
  simp only [compT, tFine, asS_add, asS_sub, asS_mul, asS_shiftLeft, asS_sra, asS_setWidth adc (by decide)]

theorem compT_snd_eq (hasH : Bool) (c : CoeffSet Word) (adc : BitVec 20) :
    asS (compT hasH c adc).2 = tC100 hasH (tFine c adc.toNat) := by
  rw [← compT_fst_eq hasH]
  simp only [compT, tC100]
  cases hasH with
  | true =>
    simp only [if_true]
    rw [asS_clampS _ (by decide) (by decide) (by decide)]
    simp only [asS_add, asS_mul, asS_sra]
    rfl
  | false =>
    simp only [asS_add, asS_mul, asS_sra, Bool.false_eq_true, if_false]
    rfl

theorem tempOut_eq (r : SplitRule) (a b : Word) : tempOut r a b = tempOf r (asS a) (asS b) := by
  simp only [tempOut, tempOf, asU_asS]

/-! ### Pressure (spec/43_pressure.md R161-R167) -/

theorem pressTerms_fst_eq (c : CoeffSet Word) (tf : Word) :
    asS (pressTerms c tf).1 =
      let q := shr (subS (shr (asS tf) 1) 64000) 2
      shr (addS (shr (mulS (asS c.p3) (shr (mulS q q) 13)) 3) (shr (mulS (asS c.p2) (subS (shr (asS tf) 1) 64000)) 1)) 18 := by
  simp only [pressTerms, asS_add, asS_sub, asS_mul, asS_sra]
  rfl

theorem pressTerms_snd_eq (c : CoeffSet Word) (tf : Word) :
    asS (pressTerms c tf).2 =
      let v := subS (shr (asS tf) 1) 64000
      let q := shr v 2
      addS (shr (addS (mulS (shr (mulS q q) 11) (asS c.p6)) (shlS (mulS v (asS c.p5)) 1)) 2) (shlS (asS c.p4) 16) := by
  simp only [pressTerms, asS_add, asS_sub, asS_mul, asS_shiftLeft, asS_sra]
  rfl

theorem pressDen_eq (c : CoeffSet Word) (v : Word) :
    asS (pressDen c v) = shr (mulS (addS 32768 (asS v)) (asS c.p1)) 15 := by
  simp only [pressDen, asS_add, asS_mul, asS_sra]
  rfl

theorem pressQuotient_eq (adc : BitVec 20) (v2 den : Word) :
    ((pressQuotient adc v2 den).toNat : Int) =
      let p := mulU (subU (wrapU (subS 1048576 adc.toNat)) (wrapU (shr (asS v2) 12))) 3125
      if p < 0x80000000 then shlU p 1 / wrapU (asS den) else mulU (p / wrapU (asS den)) 2 := by
  have hp : ((((1048576 - adc.setWidth 32) - sra v2 12) * 3125 : Word).toNat : Int) =
      mulU (subU (wrapU (subS 1048576 adc.toNat)) (wrapU (shr (asS v2) 12))) 3125 := by
    rw [toNat_mul_word, toNat_sub_word, toNat_eq_wrapU (1048576 - _), asS_sub, toNat_eq_wrapU (sra _ _), asS_sra,
      asS_setWidth _ (by decide)]
    rfl
  simp only [← hp, ← toNat_eq_wrapU den, pressQuotient]
  generalize (((1048576 - adc.setWidth 32) - sra v2 12) * 3125 : Word) = p
  have hlt : (p < 0x80000000) ↔ ((p.toNat : Int) < 0x80000000) := by
    rw [BitVec.lt_def]
    exact Nat.cast_lt.symm
  simp only [hlt]
  split
  · rw [toNat_div_word, toNat_shiftLeft_word]
  · rw [toNat_mul_word, toNat_div_word]
    rfl

theorem pressCorrect_eq (c : CoeffSet Word) (p : Word) :
    ((pressCorrect c p).toNat : Int) =
      let w1 := shr (mulS (asS c.p9) (wrapS (shr (mulU (shr p.toNat 3) (shr p.toNat 3)) 13))) 12
      let w2 := shr (mulS (wrapS (shr p.toNat 2)) (asS c.p8)) 13
      wrapU (addS (wrapS p.toNat) (shr (addS (addS w1 w2) (asS c.p7)) 4)) := by
  simp only [pressCorrect]
  rw [toNat_eq_wrapU]
  simp only [asS_add, asS_mul, asS_sra]
  rw [asS_eq_wrapS_toNat p, asS_eq_wrapS_toNat (p >>> 2), toNat_shiftRight_word,
    asS_eq_wrapS_toNat ((p >>> 3 * p >>> 3) >>> 13), toNat_shiftRight_word, toNat_mul_word, toNat_shiftRight_word]

theorem compP_eq (c : CoeffSet Word) (adc : BitVec 20) (tf : Word) :
    (compP c adc tf).map (fun w => (w.toNat : Int)) = Exact.pressure c adc.toNat (asS tf) := by
  simp only [compP, Exact.pressure]
  rw [← pressTerms_fst_eq, ← pressTerms_snd_eq, ← pressDen_eq]
  generalize pressDen c (pressTerms c tf).1 = den
  have hz : (den == 0) = decide (asS den = 0) := by
    rw [Bool.eq_iff_iff]
    simp [← BitVec.toInt_inj]
  rw [hz]
  simp only [decide_eq_true_eq]
  split
  · rfl
  · rw [Option.map_some, pressCorrect_eq, pressQuotient_eq]

theorem pressOut_eq (pCenti : Bool) (p : Word) : pressOut pCenti p = pressOf pCenti p.toNat := by
  have hdiv : asU ((p.toNat : Int) / 100) = p / 100 := asU_of_toNat (toNat_div_word p 100)
  have hmod : asU ((p.toNat : Int) % 100) = p % 100 := asU_of_toNat (by rw [BitVec.toNat_umod]; rfl)
  rw [pressOut, pressOf, asU_toNat, hdiv, hmod]

/-! ### Humidity (spec/44_humidity.md R181-R184) -/

theorem humRaw_eq (c : CoeffSet Word) (adc : BitVec 16) (tf : Word) :
    asS (humRaw c adc tf) = humX c adc.toNat (asS tf) := by
  simp only [humRaw, humX, asS_add, asS_sub, asS_mul, asS_shiftLeft, asS_sra, asS_setWidth adc (by decide)]
  rfl

theorem compH_fst_eq (c : CoeffSet Word) (adc : BitVec 16) (tf : Word) :
    asS (compH c adc tf).1 = humQ c adc.toNat (asS tf) := by
  simp only [compH, humQ10, humQ]
  rw [asS_asU, asS_sra, asS_clampS _ (by decide) (by decide) (by decide), humRaw_eq, wrapS_of_range]
  simp only [shr, clamp]
  omega

theorem compH_snd_eq (c : CoeffSet Word) (adc : BitVec 16) (tf : Word) :
    (compH c adc tf).2 = humC (humQ c adc.toNat (asS tf)) := by
  rw [← compH_fst_eq]
  rfl

theorem humOut_eq (r : SplitRule) (hq : Word) (hc : Int) : humOut r hq hc = humOf r (asS hq) hc := by
  simp only [humOut, humOf, asU_asS]

/-! ### Sea level (spec/45_sealevel.md R201-R206) -/

theorem sealevelDefault_eq (p t h : Int) : sealevelDefault p t h = Exact.sealevel p t h := by
  simp only [sealevelDefault, Exact.sealevel, floorShift, shr, quot, clampInt, clamp, Machine.baroK, Exact.baroK]

theorem sealevelFn_eq (c : Params) (p t : Word) : sealevelFn c p t = Exact.slp c p (asS t) := by
  cases h : c.sealevelFn <;> simp [sealevelFn, Exact.slp, h, sealevelDefault_eq]

end Sys2Proof.Machine
end

