-- ==== Sys2Proof/Laws/Measure.lean ====
section
/-! SUPPORT. The shared parts of `UNPACK` and `MEASURE`: the raw counts of the burst, and the commits with their feature tests
inside the fields. -/

namespace Sys2Proof.Machine

/-! ### Bytes (spec/20_memory.md R64, spec/41_acquisition.md R124) -/

theorem lane_toNat (w : Word) (j : Nat) : (lane w (j % 4)).toNat = Exact.byteOf w j := by
  simp [lane, Exact.byteOf, Nat.shiftRight_eq_div_pow]

theorem burstByte_toNat (r0 r1 : Word) (j : Fin 8) : (burstByte r0 r1 j).toNat = Exact.bb r0 r1 j.val := by
  simp only [burstByte, Exact.bb, lane_toNat]

/-- Joining two fields is a shift and an addition. -/
theorem shiftLeft_or_eq_add {a b n : Nat} (h : b < 2 ^ n) : a <<< n ||| b = a * 2 ^ n + b := by
  rw [← Nat.shiftLeft_add_eq_or_of_lt h, Nat.shiftLeft_eq]

theorem raw20_toNat (a b c : Byte) : (raw20 a b c).toNat = a.toNat * 2 ^ 12 + b.toNat * 2 ^ 4 + c.toNat / 2 ^ 4 := by
  have hb := b.isLt
  have hc := c.isLt
  have hlow : (c.extractLsb' 4 4).toNat = c.toNat / 2 ^ 4 := by
    simp only [BitVec.extractLsb'_toNat, Nat.shiftRight_eq_div_pow]
    omega
  simp only [raw20, BitVec.toNat_append, hlow]
  rw [shiftLeft_or_eq_add (by omega), shiftLeft_or_eq_add (by omega)]
  omega

theorem burstP_toNat (r0 r1 : Word) : (burstP r0 r1).toNat = Exact.raw20 r0 r1 0 := by
  rw [burstP, raw20_toNat, burstByte_toNat, burstByte_toNat, burstByte_toNat]
  rfl

theorem burstT_toNat (r0 r1 : Word) : (burstT r0 r1).toNat = Exact.raw20 r0 r1 3 := by
  rw [burstT, raw20_toNat, burstByte_toNat, burstByte_toNat, burstByte_toNat]
  rfl

theorem burstH_toNat (r0 r1 : Word) : (burstH r0 r1).toNat = Exact.raw16 r0 r1 := by
  have := (burstByte r0 r1 7).isLt
  rw [burstH, BitVec.toNat_append, shiftLeft_or_eq_add (by omega), burstByte_toNat, burstByte_toNat]
  rfl

/-! ### The writes of `UNPACK` and `MEASURE` -/

theorem writeAdc_eq (s : State) :
    writeAdc s =
      ((s.setAdcP (burstP s.raw0 s.raw1)).setAdcT (burstT s.raw0 s.raw1)).setAdcH
        (if s.cfg.hasH = true then burstH s.raw0 s.raw1 else s.adcH) := by
  simp only [writeAdc]
  split <;> rfl

theorem commitOutputs_eq (x : CycleResult) (s : State) :
    commitOutputs x s =
      { s with
        temp := tempOut s.cfg.splitRule x.temp.1 x.temp.2
        press := pressOut s.cfg.pCenti x.press
        hum := if s.cfg.hasH = true then humOut s.cfg.splitRule x.hum.1 x.hum.2 else s.hum
        slp := if s.cfg.sealevelEn = true then x.slp else s.slp
        status := { s.status with tv := true, pv := true, hv := s.cfg.hasH || s.status.hv } } := by
  cases hH : s.cfg.hasH <;> cases hS : s.cfg.sealevelEn <;>
    simp [commitOutputs, setTv, setPv, setHv, writeT, writeP, writeH, State.setTemp, State.setPress, State.setHum,
      State.setStatus, State.setSlp, hH, hS]

theorem commitWindows_eq (x : CycleResult) (s : State) :
    commitWindows x s =
      { s with
        avgT := if s.cfg.avgTEn = true then pushSample s.cfg x.temp.2 s.avgT else s.avgT
        avgH := if s.cfg.avgHEn = true then pushSample s.cfg (asU x.hum.2) s.avgH else s.avgH } := by
  cases hT : s.cfg.avgTEn <;> cases hH : s.cfg.avgHEn <;> simp [commitWindows, State.setAvgT, State.setAvgH, hT, hH]

end Sys2Proof.Machine
end

