-- ==== Sys2Proof/Laws/Commands.lean ====
section
/-! SUPPORT. What each command can do, said once: if it answers `next t`, then `t` is one of these states.
Later proofs split these cases and never unfold a meaning. -/

namespace Sys2Proof.Machine

variable {s t : State}

theorem execNop_cases (h : execNop s = .next t) : t = s.reported .ok := by
  cases h
  rfl

theorem execSreset_cases (h : execSreset s = .next t) : t = applyReset s := by
  cases h
  rfl

theorem execErrClr_cases (h : execErrClr s = .next t) : t = State.reported { s with err := 0 } .ok := by
  cases h
  rfl

theorem execErrSet_cases {m : BitVec 2} (h : execErrSet m s = .next t) :
    t = State.reported { s with err := s.err ||| m } .ok := by
  cases h
  rfl

theorem execCalLatch_cases (h : execCalLatch s = .next t) :
    ((unpackCal s.cfg.hasH s.calraw).tpZero = true ∧
      t = State.reported
        { s with err := s.err ||| 0b01, status := { s.status with calValid := false } } .calInvalid) ∨
    ((unpackCal s.cfg.hasH s.calraw).tpZero = false ∧
      t = State.reported
        { s with
          dig := (unpackCal s.cfg.hasH s.calraw).map asU
          status :=
            { s.status with
              calValid := true, hcz := s.cfg.hasH && (unpackCal s.cfg.hasH s.calraw).humZero, tv := false, pv := false
              hv := false } } .ok) := by
  simp only [execCalLatch] at h
  split at h <;> cases h
  · exact .inl ⟨‹_›, rfl⟩
  · rename_i hz
    exact .inr ⟨Bool.eq_false_of_not_eq_true hz, rfl⟩

theorem execChkBusy_cases (h : execChkBusy s = .next t) :
    (s.cfg.busyCheck = false ∧ t = s.reported .illegalCmd) ∨
    (s.cfg.busyCheck = true ∧ s.Blocked ∧ t = s.reported .configError) ∨
    (s.cfg.busyCheck = true ∧ ¬s.Blocked ∧ sensorBusy s.sensorStatus = true ∧ t = s.reported .sensorBusy) ∨
    (s.cfg.busyCheck = true ∧ ¬s.Blocked ∧ sensorBusy s.sensorStatus = false ∧ t = s.reported .ok) := by
  simp only [execChkBusy, gateClosed_beginCmd, illegalWord_eq, finish_beginCmd] at h
  split at h
  · rename_i hB
    cases h
    exact .inl ⟨by simpa using hB, rfl⟩
  rename_i hB
  have hB : s.cfg.busyCheck = true := by simpa using hB
  split at h
  · cases h
    exact .inr (.inl ⟨hB, ‹_›, rfl⟩)
  split at h <;> cases h
  · exact .inr (.inr (.inl ⟨hB, ‹_›, ‹_›, rfl⟩))
  · rename_i hb
    exact .inr (.inr (.inr ⟨hB, ‹_›, Bool.eq_false_of_not_eq_true hb, rfl⟩))

theorem execUnpack_cases (h : execUnpack s = .next t) :
    (s.Blocked ∧ t = s.reported .configError) ∨
    (¬s.Blocked ∧
      t = State.reported
        { s with
          adcP := burstP s.raw0 s.raw1
          adcT := burstT s.raw0 s.raw1
          adcH := if s.cfg.hasH = true then burstH s.raw0 s.raw1 else s.adcH } .ok) := by
  simp only [execUnpack, gateClosed_beginCmd, writeAdc_eq] at h
  split at h <;> cases h
  · exact .inl ⟨‹_›, rfl⟩
  · exact .inr ⟨‹_›, rfl⟩

theorem execChkBounds_cases (h : execChkBounds s = .next t) :
    (s.Blocked ∧ t = s.reported .configError) ∨
    (¬s.Blocked ∧ (checkAll s).bound.any = true ∧
      t = State.reported { s with bound := (checkAll s).bound } .outOfRange) ∨
    (¬s.Blocked ∧ (checkAll s).bound.any = false ∧ t = State.reported { s with bound := (checkAll s).bound } .ok) := by
  have e : (checkAll (beginCmd s)).bound = (checkAll s).bound := rfl
  simp only [execChkBounds, gateClosed_beginCmd, e] at h
  (repeat' split at h) <;> cases h
  · exact .inl ⟨‹_›, rfl⟩
  · exact .inr (.inl ⟨‹_›, ‹_›, rfl⟩)
  · exact .inr (.inr ⟨‹_›, by simpa using ‹¬(_ = true)›, rfl⟩)

theorem execCompT_cases (h : execCompT s = .next t) :
    (s.Blocked ∧ t = s.reported .configError) ∨
    (¬s.Blocked ∧ (checkT s).bound.t.any = true ∧
      t = State.reported { s with bound := (checkT s).bound } .outOfRange) ∨
    (¬s.Blocked ∧ (checkT s).bound.t.any = false ∧
      t = State.reported
        { s with
          bound := (checkT s).bound
          temp := tempOut s.cfg.splitRule (compT s.cfg.hasH s.dig s.adcT).1 (compT s.cfg.hasH s.dig s.adcT).2
          status := { s.status with tv := true } } .ok) := by
  have e : (checkT (beginCmd s)).bound = (checkT s).bound := rfl
  simp only [execCompT, gateClosed_beginCmd, e] at h
  (repeat' split at h) <;> cases h
  · exact .inl ⟨‹_›, rfl⟩
  · exact .inr (.inl ⟨‹_›, ‹_›, rfl⟩)
  · exact .inr (.inr ⟨‹_›, by simpa using ‹¬(_ = true)›, rfl⟩)

theorem execCompP_cases (h : execCompP s = .next t) :
    (s.Blocked ∧ t = s.reported .configError) ∨
    (¬s.Blocked ∧ s.status.tv = false ∧ t = s.reported .sequenceError) ∨
    (¬s.Blocked ∧ s.status.tv = true ∧ (checkP s).bound.p.any = true ∧
      t = State.reported { s with bound := (checkP s).bound } .outOfRange) ∨
    (¬s.Blocked ∧ s.status.tv = true ∧ (checkP s).bound.p.any = false ∧ compP s.dig s.adcP s.temp.fine = none ∧
      t = State.reported
        { s with bound := (checkP s).bound, status := { s.status with divz := true } } .divByZero) ∨
    (¬s.Blocked ∧ s.status.tv = true ∧ (checkP s).bound.p.any = false ∧ ∃ p : Word,
      compP s.dig s.adcP s.temp.fine = some p ∧
        t = State.reported
          { s with
            bound := (checkP s).bound
            press := pressOut s.cfg.pCenti p
            status := { s.status with divz := false, pv := true } } .ok) := by
  have e : (checkP (beginCmd s)).bound = (checkP s).bound := rfl
  have e' : compP (checkP (beginCmd s)).dig (checkP (beginCmd s)).adcP (checkP (beginCmd s)).temp.fine =
    compP s.dig s.adcP s.temp.fine := rfl
  simp only [execCompP, gateClosed_beginCmd, beginCmd_status_tv, Bool.not_eq_true', e, e'] at h
  split at h
  · cases h
    exact .inl ⟨‹_›, rfl⟩
  split at h
  · cases h
    exact .inr (.inl ⟨‹_›, ‹_›, rfl⟩)
  rename_i htv
  rw [Bool.not_eq_false] at htv
  split at h
  · cases h
    exact .inr (.inr (.inl ⟨‹_›, htv, ‹_›, rfl⟩))
  rename_i hb
  rw [Bool.not_eq_true] at hb
  split at h <;> cases h
  · exact .inr (.inr (.inr (.inl ⟨‹_›, htv, hb, ‹_›, rfl⟩)))
  · exact .inr (.inr (.inr (.inr ⟨‹_›, htv, hb, _, ‹_›, rfl⟩)))

theorem execCompH_cases (h : execCompH s = .next t) :
    (s.cfg.hasH = false ∧ t = s.reported .illegalCmd) ∨
    (s.cfg.hasH = true ∧ s.Blocked ∧ t = s.reported .configError) ∨
    (s.cfg.hasH = true ∧ ¬s.Blocked ∧ s.status.tv = false ∧ t = s.reported .sequenceError) ∨
    (s.cfg.hasH = true ∧ ¬s.Blocked ∧ s.status.tv = true ∧ (checkH s).bound.h.any = true ∧
      t = State.reported { s with bound := (checkH s).bound } .outOfRange) ∨
    (s.cfg.hasH = true ∧ ¬s.Blocked ∧ s.status.tv = true ∧ (checkH s).bound.h.any = false ∧
      t = State.reported
        { s with
          bound := (checkH s).bound
          hum := humOut s.cfg.splitRule (compH s.dig s.adcH s.temp.fine).1 (compH s.dig s.adcH s.temp.fine).2
          status := { s.status with hv := true } } .ok) := by
  have e : (checkH (beginCmd s)).bound = (checkH s).bound := rfl
  simp only [execCompH, gateClosed_beginCmd, beginCmd_status_tv, Bool.not_eq_true', illegalWord_eq, e] at h
  split at h
  · cases h
    exact .inl ⟨‹_›, rfl⟩
  rename_i hH
  rw [Bool.not_eq_false] at hH
  split at h
  · cases h
    exact .inr (.inl ⟨hH, ‹_›, rfl⟩)
  split at h
  · cases h
    exact .inr (.inr (.inl ⟨hH, ‹_›, ‹_›, rfl⟩))
  rename_i htv
  rw [Bool.not_eq_false] at htv
  split at h <;> cases h
  · exact .inr (.inr (.inr (.inl ⟨hH, ‹_›, htv, ‹_›, rfl⟩)))
  · exact .inr (.inr (.inr (.inr ⟨hH, ‹_›, htv, by simpa using ‹¬(_ = true)›, rfl⟩)))

theorem execSealevel_cases (h : execSealevel s = .next t) :
    (s.cfg.sealevelEn = false ∧ t = s.reported .illegalCmd) ∨
    (s.cfg.sealevelEn = true ∧ s.Blocked ∧ t = s.reported .configError) ∨
    (s.cfg.sealevelEn = true ∧ ¬s.Blocked ∧ (s.status.tv = false ∨ s.status.pv = false) ∧
      t = s.reported .sequenceError) ∨
    (s.cfg.sealevelEn = true ∧ ¬s.Blocked ∧ s.status.tv = true ∧ s.status.pv = true ∧
      t = State.reported { s with slp := sealevelFn s.cfg s.press.comp s.temp.c100 } .ok) := by
  simp only [execSealevel, gateClosed_beginCmd, beginCmd_status_tv, beginCmd_status_pv, Bool.not_eq_true',
    Bool.or_eq_true, illegalWord_eq, finish_beginCmd] at h
  split at h
  · cases h
    exact .inl ⟨‹_›, rfl⟩
  rename_i hS
  rw [Bool.not_eq_false] at hS
  split at h
  · cases h
    exact .inr (.inl ⟨hS, ‹_›, rfl⟩)
  split at h <;> cases h
  · exact .inr (.inr (.inl ⟨hS, ‹_›, ‹_›, rfl⟩))
  · rename_i hv
    push Not at hv
    exact .inr (.inr (.inr ⟨hS, ‹_›, by simpa using hv.1, by simpa using hv.2, rfl⟩))

theorem execAvgT_cases (h : execAvgT s = .next t) :
    (s.cfg.avgTEn = false ∧ t = s.reported .illegalCmd) ∨
    (s.cfg.avgTEn = true ∧ s.Blocked ∧ t = s.reported .configError) ∨
    (s.cfg.avgTEn = true ∧ ¬s.Blocked ∧ s.status.tv = false ∧ t = s.reported .sequenceError) ∨
    (s.cfg.avgTEn = true ∧ ¬s.Blocked ∧ s.status.tv = true ∧
      t = State.reported { s with avgT := pushSample s.cfg s.temp.c100 s.avgT } .ok) := by
  simp only [execAvgT, gateClosed_beginCmd, beginCmd_status_tv, Bool.not_eq_true', illegalWord_eq,
    finish_beginCmd] at h
  split at h
  · cases h
    exact .inl ⟨‹_›, rfl⟩
  rename_i hT
  rw [Bool.not_eq_false] at hT
  split at h
  · cases h
    exact .inr (.inl ⟨hT, ‹_›, rfl⟩)
  split at h <;> cases h
  · exact .inr (.inr (.inl ⟨hT, ‹_›, ‹_›, rfl⟩))
  · exact .inr (.inr (.inr ⟨hT, ‹_›, by simpa using ‹¬(_ = false)›, rfl⟩))

theorem execAvgH_cases (h : execAvgH s = .next t) :
    (s.cfg.avgHEn = false ∧ t = s.reported .illegalCmd) ∨
    (s.cfg.avgHEn = true ∧ s.Blocked ∧ t = s.reported .configError) ∨
    (s.cfg.avgHEn = true ∧ ¬s.Blocked ∧ s.status.hv = false ∧ t = s.reported .sequenceError) ∨
    (s.cfg.avgHEn = true ∧ ¬s.Blocked ∧ s.status.hv = true ∧
      t = State.reported { s with avgH := pushSample s.cfg s.hum.c100 s.avgH } .ok) := by
  simp only [execAvgH, gateClosed_beginCmd, beginCmd_status_hv, Bool.not_eq_true', illegalWord_eq,
    finish_beginCmd] at h
  split at h
  · cases h
    exact .inl ⟨‹_›, rfl⟩
  rename_i hT
  rw [Bool.not_eq_false] at hT
  split at h
  · cases h
    exact .inr (.inl ⟨hT, ‹_›, rfl⟩)
  split at h <;> cases h
  · exact .inr (.inr (.inl ⟨hT, ‹_›, ‹_›, rfl⟩))
  · exact .inr (.inr (.inr ⟨hT, ‹_›, by simpa using ‹¬(_ = false)›, rfl⟩))

theorem execAvgClr_cases (h : execAvgClr s = .next t) :
    (s.cfg.avgTEn = false ∧ s.cfg.avgHEn = false ∧ t = s.reported .illegalCmd) ∨
    ((s.cfg.avgTEn = true ∨ s.cfg.avgHEn = true) ∧
      t = State.reported { s with avgT := clearChan s.avgT, avgH := clearChan s.avgH } .ok) := by
  simp only [execAvgClr, illegalWord_eq, Bool.not_eq_true', Bool.or_eq_false_iff] at h
  split at h <;> cases h
  · rename_i hc
    exact .inl ⟨hc.1, hc.2, rfl⟩
  · rename_i hc
    refine .inr ⟨?_, rfl⟩
    cases hT : s.cfg.avgTEn
    · exact .inr (by simpa [hT] using hc)
    · exact .inl rfl

/-- The raw counts of the burst and their bound flags: what `MEASURE` has written when its bound check ends (R244). -/
def acquired (s : State) : State := checkAll (writeAdc s)

/-! `acquired` writes `BOUND` and the raw counts only. -/

section
variable (s : State)
@[simp] theorem acquired_cfg : (acquired s).cfg = s.cfg := by simp [acquired, writeAdc_eq, checkAll_eq]
@[simp] theorem acquired_port : (acquired s).port = s.port := by simp [acquired, writeAdc_eq, checkAll_eq]
@[simp] theorem acquired_status : (acquired s).status = s.status := by simp [acquired, writeAdc_eq, checkAll_eq]
@[simp] theorem acquired_err : (acquired s).err = s.err := by simp [acquired, writeAdc_eq, checkAll_eq]
@[simp] theorem acquired_sensorStatus : (acquired s).sensorStatus = s.sensorStatus := by simp [acquired, writeAdc_eq, checkAll_eq]
@[simp] theorem acquired_mode : (acquired s).mode = s.mode := by simp [acquired, writeAdc_eq, checkAll_eq]
@[simp] theorem acquired_calraw : (acquired s).calraw = s.calraw := by simp [acquired, writeAdc_eq, checkAll_eq]
@[simp] theorem acquired_dig : (acquired s).dig = s.dig := by simp [acquired, writeAdc_eq, checkAll_eq]
@[simp] theorem acquired_raw0 : (acquired s).raw0 = s.raw0 := by simp [acquired, writeAdc_eq, checkAll_eq]
@[simp] theorem acquired_raw1 : (acquired s).raw1 = s.raw1 := by simp [acquired, writeAdc_eq, checkAll_eq]
@[simp] theorem acquired_temp : (acquired s).temp = s.temp := by simp [acquired, writeAdc_eq, checkAll_eq]
@[simp] theorem acquired_press : (acquired s).press = s.press := by simp [acquired, writeAdc_eq, checkAll_eq]
@[simp] theorem acquired_hum : (acquired s).hum = s.hum := by simp [acquired, writeAdc_eq, checkAll_eq]
@[simp] theorem acquired_slp : (acquired s).slp = s.slp := by simp [acquired, writeAdc_eq, checkAll_eq]
@[simp] theorem acquired_avgT : (acquired s).avgT = s.avgT := by simp [acquired, writeAdc_eq, checkAll_eq]
@[simp] theorem acquired_avgH : (acquired s).avgH = s.avgH := by simp [acquired, writeAdc_eq, checkAll_eq]
@[simp] theorem acquired_adcP : (acquired s).adcP = burstP s.raw0 s.raw1 := by simp [acquired, writeAdc_eq, checkAll_eq]
@[simp] theorem acquired_adcT : (acquired s).adcT = burstT s.raw0 s.raw1 := by simp [acquired, writeAdc_eq, checkAll_eq]
@[simp] theorem acquired_adcH :
    (acquired s).adcH = if s.cfg.hasH = true then burstH s.raw0 s.raw1 else s.adcH := by simp [acquired, writeAdc_eq, checkAll_eq]
end

theorem execMeasure_cases (h : execMeasure s = .next t) :
    (s.Blocked ∧ t = s.reported .configError) ∨
    (¬s.Blocked ∧ s.cfg.busyCheck = true ∧ sensorBusy s.sensorStatus = true ∧ t = s.reported .sensorBusy) ∨
    (¬s.Blocked ∧ (s.cfg.busyCheck && sensorBusy s.sensorStatus) = false ∧ (acquired s).bound.any = true ∧
      t = (acquired s).reported .outOfRange) ∨
    (¬s.Blocked ∧ (s.cfg.busyCheck && sensorBusy s.sensorStatus) = false ∧ (acquired s).bound.any = false ∧
      compP s.dig (acquired s).adcP (compT s.cfg.hasH s.dig (acquired s).adcT).1 = none ∧
      t = State.reported { acquired s with status := { s.status with divz := true } } .divByZero) ∨
    (¬s.Blocked ∧ (s.cfg.busyCheck && sensorBusy s.sensorStatus) = false ∧ (acquired s).bound.any = false ∧
      ∃ p : Word, compP s.dig (acquired s).adcP (compT s.cfg.hasH s.dig (acquired s).adcT).1 = some p ∧
        t = { acquired s with
          temp := tempOut s.cfg.splitRule (cycleResult (acquired s) p).temp.1 (cycleResult (acquired s) p).temp.2
          press := pressOut s.cfg.pCenti p
          hum :=
            if s.cfg.hasH = true then
              humOut s.cfg.splitRule (cycleResult (acquired s) p).hum.1 (cycleResult (acquired s) p).hum.2
            else s.hum
          slp := if s.cfg.sealevelEn = true then (cycleResult (acquired s) p).slp else s.slp
          avgT :=
            if s.cfg.avgTEn = true then pushSample s.cfg (cycleResult (acquired s) p).temp.2 s.avgT else s.avgT
          avgH :=
            if s.cfg.avgHEn = true then pushSample s.cfg (asU (cycleResult (acquired s) p).hum.2) s.avgH
            else s.avgH
          status :=
            { s.status with
              result := .ok, divz := false, tv := true, pv := true, hv := s.cfg.hasH || s.status.hv
              rearm := forcedMode s.mode } }) := by
  have e : checkAll (writeAdc (beginCmd s)) = (acquired s).setStatus (beginCmd s).status := by
    simp only [acquired, writeAdc_eq, checkAll_eq]
    rfl
  simp only [execMeasure, gateClosed_beginCmd, e, commitOutputs_eq, commitWindows_eq] at h
  split at h
  · cases h
    exact .inl ⟨‹_›, rfl⟩
  split at h
  · rename_i hb
    cases h
    rw [Bool.and_eq_true] at hb
    exact .inr (.inl ⟨‹_›, hb.1, hb.2, rfl⟩)
  rename_i hbusy
  rw [Bool.not_eq_true] at hbusy
  split at h
  · rename_i hb
    rw [finish_eq_next] at h
    subst h
    refine .inr (.inr (.inl ⟨‹_›, hbusy, hb, ?_⟩))
    simp [State.setStatus, State.reported, beginCmd]
  rename_i hb
  have hb := Bool.eq_false_of_not_eq_true hb
  rw [State.setStatus_bound] at hb
  split at h <;> rename_i hp <;>
    rw [State.setStatus_cfg, State.setStatus_dig, State.setStatus_adcP, State.setStatus_adcT, acquired_cfg,
      acquired_dig] at hp <;>
    rw [finish_eq_next] at h <;> subst h
  · refine .inr (.inr (.inr (.inl ⟨‹_›, hbusy, hb, hp, ?_⟩)))
    simp [State.setStatus, State.reported, beginCmd, setDivz]
  · refine .inr (.inr (.inr (.inr ⟨‹_›, hbusy, hb, _, hp, ?_⟩)))
    simp [State.setStatus, beginCmd, setDivz, setRearm, cycleResult]

end Sys2Proof.Machine
end

