-- ==== Sys2Proof/Laws/PerInstr.lean ====
section
/-! SUPPORT. For every command, its word against its row of spec/opcode_table.json. -/

namespace Sys2Proof.Laws

/-- The "mask" column of spec/opcode_table.json. -/
def tableMask (i : Instr) : Word :=
  match i with
  | .errSet _ => 0xFFFFFCFF
  | _ => 0xFFFFFFFF

/-- The "match" column of spec/opcode_table.json. -/
def tableMatch (i : Instr) : Word :=
  match i with
  | .nop => 0x00000000
  | .sreset => 0x00000001
  | .errClr => 0x00000002
  | .errSet _ => 0x00000003
  | .calLatch => 0x00000008
  | .chkBusy => 0x00000010
  | .unpack => 0x00000011
  | .chkBounds => 0x00000012
  | .compT => 0x00000020
  | .compP => 0x00000021
  | .compH => 0x00000022
  | .sealevel => 0x00000023
  | .avgT => 0x00000030
  | .avgH => 0x00000031
  | .avgClr => 0x00000032
  | .measure => 0x00000040

/-- The command's word has the fixed bits of its row, and the opcode map reads the command and its operand back from it. -/
def EncodingFits.Statement (i : Instr) : Prop :=
  encode i &&& tableMask i = tableMatch i ∧ opcodeMap (opcField (encode i)) ((argField (encode i)).extractLsb' 0 2) = some i

theorem EncodingFits.nop : EncodingFits.Statement .nop := by
  constructor <;> decide

theorem EncodingFits.sreset : EncodingFits.Statement .sreset := by
  constructor <;> decide

theorem EncodingFits.errClr : EncodingFits.Statement .errClr := by
  constructor <;> decide

theorem EncodingFits.errSet (m : BitVec 2) : EncodingFits.Statement (.errSet m) := by
  constructor <;> revert m <;> decide

theorem EncodingFits.calLatch : EncodingFits.Statement .calLatch := by
  constructor <;> decide

theorem EncodingFits.chkBusy : EncodingFits.Statement .chkBusy := by
  constructor <;> decide

theorem EncodingFits.unpack : EncodingFits.Statement .unpack := by
  constructor <;> decide

theorem EncodingFits.chkBounds : EncodingFits.Statement .chkBounds := by
  constructor <;> decide

theorem EncodingFits.compT : EncodingFits.Statement .compT := by
  constructor <;> decide

theorem EncodingFits.compP : EncodingFits.Statement .compP := by
  constructor <;> decide

theorem EncodingFits.compH : EncodingFits.Statement .compH := by
  constructor <;> decide

theorem EncodingFits.sealevel : EncodingFits.Statement .sealevel := by
  constructor <;> decide

theorem EncodingFits.avgT : EncodingFits.Statement .avgT := by
  constructor <;> decide

theorem EncodingFits.avgH : EncodingFits.Statement .avgH := by
  constructor <;> decide

theorem EncodingFits.avgClr : EncodingFits.Statement .avgClr := by
  constructor <;> decide

theorem EncodingFits.measure : EncodingFits.Statement .measure := by
  constructor <;> decide

end Sys2Proof.Laws
end

