-- ==== Sys2Proof/Laws/RegMap.lean ====
section
/-! SUPPORT. The register map: `regOfOffset` inverts `Reg.offset`, and what an access reaches (spec/20_memory.md R61-R63, R72). -/

namespace Sys2Proof.Machine

theorem regOfOffset_offset (r : Reg) : regOfOffset r.offset = some r := by
  cases r with
  | calraw k => revert k; decide +kernel
  | dig k => revert k; decide +kernel
  | winT k => revert k; decide +kernel
  | winH k => revert k; decide +kernel
  | _ => decide +kernel

theorem offset_of_regOfOffset {off : BitVec 10} {r : Reg} (h : regOfOffset off = some r) : r.offset = off := by
  have key : ∀ off : BitVec 10, (match regOfOffset off with | some r => decide (r.offset = off) | none => true) = true := by
    decide +kernel
  simpa [h] using key off

/-- A register's offset is a multiple of 4. -/
theorem Reg.offset_aligned (r : Reg) : r.offset.toNat % 4 = 0 := by
  cases r with
  | calraw k => revert k; decide +kernel
  | dig k => revert k; decide +kernel
  | winT k => revert k; decide +kernel
  | winH k => revert k; decide +kernel
  | _ => rfl

/-- The register at an offset is the mapped register with that offset. -/
theorem regAt_eq_some {p : Params} {off : BitVec 10} {r : Reg} :
    regAt p off = some r ↔ r.offset = off ∧ r.mapped p = true := by
  simp only [regAt]
  constructor
  · intro h
    split at h
    · split at h
      · cases h
        exact ⟨offset_of_regOfOffset ‹_›, ‹_›⟩
      · cases h
    · cases h
  · rintro ⟨rfl, h⟩
    rw [regOfOffset_offset]
    simp [h]

/-- An aligned 32-bit access to a mapped register reaches it. -/
theorem accessReg_ok {p : Params} {r : Reg} (h : r.mapped p = true) : accessReg p r.offset 4 = .ok r := by
  have hr : regAt p r.offset = some r := regAt_eq_some.2 ⟨rfl, h⟩
  simp [accessReg, hr, r.offset_aligned]

/-- When an access is an access error. -/
theorem accessReg_error_iff (p : Params) (off : BitVec 10) (bytes : Nat) :
    (∃ f : Fault, accessReg p off bytes = .error f) ↔
      bytes ≠ 4 ∨ off.toNat % 4 ≠ 0 ∨ ∀ r : Reg, r.mapped p = true → r.offset ≠ off := by
  constructor
  · rintro ⟨f, hf⟩
    by_contra hc
    push Not at hc
    obtain ⟨rfl, -, r, hm, rfl⟩ := hc
    rw [accessReg_ok hm] at hf
    cases hf
  · intro h
    simp only [accessReg]
    split
    · exact ⟨_, rfl⟩
    · split
      · exact ⟨_, rfl⟩
      · split
        · rename_i r hr
          have hr := regAt_eq_some.1 hr
          rcases h with h | h | h
          · contradiction
          · contradiction
          · exact absurd hr.1 (h r hr.2)
        · exact ⟨_, rfl⟩

/-- The rows of a block of consecutive words. -/
theorem mem_wordsAt {base : Nat} {vs : List Word} {off : BitVec 10} {v : Word} :
    (off, v) ∈ wordsAt base vs ↔ ∃ k : Nat, vs[k]? = some v ∧ off = BitVec.ofNat 10 (base + 4 * k) := by
  simp only [wordsAt, List.mem_map, Prod.exists, List.mem_zipIdx_iff_getElem?, Prod.mk.injEq]
  exact ⟨fun ⟨_, k, h, ho, hv⟩ => ⟨k, hv ▸ h, ho.symm⟩, fun ⟨k, h, ho⟩ => ⟨v, k, h, ho.symm, rfl⟩⟩

/-- A read that returns a value reads a mapped register. -/
theorem memRead_eq_ok {s : State} {off : BitVec 10} {v : Word} :
    memRead s off 4 = .ok v ↔ ∃ r : Reg, r.offset = off ∧ r.mapped s.cfg = true ∧ readReg s r = v := by
  constructor
  · intro h
    simp only [memRead, accessReg] at h
    split at h
    · rename_i r hr
      split at hr
      · cases hr
      · split at hr
        · cases hr
        · split at hr
          · cases hr
            obtain ⟨ho, hm⟩ := regAt_eq_some.1 ‹regAt s.cfg off = some r›
            exact ⟨r, ho, hm, by injection h⟩
          · cases hr
    · cases h
  · rintro ⟨r, rfl, hm, rfl⟩
    rw [memRead, accessReg_ok hm]

end Sys2Proof.Machine
end

