-- ==== Sys2Proof/Tests/Slice0.lean ====
section
/-! SUPPORT. The model's own tests: words written out from spec/30_encoding.md, one step on small states against the numbers of
spec/95_test_vectors.md, and for each statement with hypotheses a state and operands that meet them. -/

namespace Sys2Proof.Tests
open Sys2Proof.Machine

set_option Elab.async false

/-! ### Small states -/

/-- The coefficient registers of vector CAL-1. -/
def cal1 : CoeffSet Word :=
  { t1 := 0x00006B70, t2 := 0x00006743, t3 := 0xFFFFFC18, p1 := 0x00008E7D, p2 := 0xFFFFD643, p3 := 0x00000BD0
    p4 := 0x00000B27, p5 := 0x0000008C, p6 := 0xFFFFFFF9, p7 := 0x00003C8C, p8 := 0xFFFFC6F8, p9 := 0x00001770, h1 := 75
    h2 := 362, h3 := 0, h4 := 313, h5 := 50, h6 := 30 }

/-- The staging words of vector CAL-1. -/
def calraw1 : Vector Word 9 :=
  #v[0x67436B70, 0x8E7DFC18, 0x0BD0D643, 0x008C0B27, 0x3C8CFFF9, 0x1770C6F8, 0x016A4B00, 0x03291300, 0x0000001E]

/-- The state after power-on with an open gate and the coefficients of CAL-1. -/
def ready (p : Params) : State :=
  { State.powerOn p with
    dig := cal1
    status := { (State.powerOn p).status with calValid := true, hcz := p.hasH } }

/-- `ready` with the burst of vector U-1. -/
def burst (p : Params) : State := { ready p with raw0 := 0x7EC05A65, raw1 := 0x307500ED }

/-- `ready` with the raw counts of vector U-1. -/
def counts (p : Params) : State := { ready p with adcP := 415148, adcT := 519888, adcH := 30000 }

/-- `counts` with the temperature of vector P-1 computed. -/
def withT (p : Params) : State :=
  { counts p with
    temp := { fine := 128422, c100 := 2508, int := 25, frac := ⟨8, false⟩ }
    status := { (counts p).status with tv := true } }

/-- `withT` with the pressure of vector P-1 and the humidity of vector H-1. -/
def measured (p : Params) : State :=
  { withT p with
    press := { comp := 100656, int := 1006, frac := 56 }
    hum := { q10 := 56317, c100 := 5499, int := 54, frac := ⟨99, false⟩ }
    status := { (withT p).status with pv := true, hv := true } }

/-- A state with one access pending. -/
def asking (a : Access) (s : State) : State := { s with port := { s.port with pending := [a] } }

/-- What a test looks at, in the next state. -/
def see {α : Type} (o : Out) (f : State → α) : Option α :=
  match o with
  | .next t => some (f t)
  | _ => none

/-- A step gives a next state. -/
def goesOn (o : Out) : Bool := (see o (fun _ => ())).isSome

/-! ### Decoding: words written out from R81 and R82 -/

theorem test_decode_nop : decode .standard 0b00000000000000000000000000000000#32 = .ok .nop := by rfl
theorem test_decode_sreset : decode .standard 0b00000000000000000000000000000001#32 = .ok .sreset := by rfl
theorem test_decode_errClr : decode .standard 0b00000000000000000000000000000010#32 = .ok .errClr := by rfl
theorem test_decode_errSet : decode .standard 0b00000000000000000000001000000011#32 = .ok (.errSet 0b10) := by rfl
theorem test_decode_calLatch : decode .standard 0b00000000000000000000000000001000#32 = .ok .calLatch := by rfl
theorem test_decode_chkBusy : decode .standard 0b00000000000000000000000000010000#32 = .ok .chkBusy := by rfl
theorem test_decode_unpack : decode .standard 0b00000000000000000000000000010001#32 = .ok .unpack := by rfl
theorem test_decode_chkBounds : decode .standard 0b00000000000000000000000000010010#32 = .ok .chkBounds := by rfl
theorem test_decode_compT : decode .standard 0b00000000000000000000000000100000#32 = .ok .compT := by rfl
theorem test_decode_compP : decode .standard 0b00000000000000000000000000100001#32 = .ok .compP := by rfl
theorem test_decode_compH : decode .standard 0b00000000000000000000000000100010#32 = .ok .compH := by rfl
theorem test_decode_sealevel : decode .standard 0b00000000000000000000000000100011#32 = .ok .sealevel := by rfl
theorem test_decode_avgT : decode .standard 0b00000000000000000000000000110000#32 = .ok .avgT := by rfl
theorem test_decode_avgH : decode .standard 0b00000000000000000000000000110001#32 = .ok .avgH := by rfl
theorem test_decode_avgClr : decode .standard 0b00000000000000000000000000110010#32 = .ok .avgClr := by rfl
theorem test_decode_measure : decode .standard 0b00000000000000000000000001000000#32 = .ok .measure := by rfl

/-- The illegal words of section 2.2 of spec/95_test_vectors.md. -/
theorem test_decode_illegal :
    decode .standard 0x00010020 = .error .reservedBits ∧ decode .standard 0x80000040 = .error .reservedBits ∧
      decode .standard 0x00000120 = .error .badArgument ∧ decode .standard 0x00000403 = .error .badArgument ∧
      decode .standard 0x00000004 = .error .reservedOpcode ∧ decode .standard 0x000000FF = .error .reservedOpcode ∧
      decode .reduced 0x00000022 = .error .featureAbsent := ⟨rfl, rfl, rfl, rfl, rfl, rfl, rfl⟩

/-- The table word of an operand command. -/
theorem test_decodeTableWord : decodeTableWord 32 0x00000303 = some (.errSet 3) := by rfl

/-- The fetched word runs first after reset. -/
theorem test_withFetchWord : see (step (State.reset.withFetchWord 32 0x00000203)) (fun t => (t.err, t.port.pending)) = some (2, []) := by
  decide +kernel

/-! ### WellFormed: a command whose feature an engine lacks is ill-formed there, and is refused there (R86) -/

/-- The engine with no optional feature. -/
def bare : Params :=
  { hasH := false, busyCheck := false, avgTEn := false, avgHEn := false, sealevelEn := false }

theorem test_wellFormed_chkBusy : Instr.wellFormed bare .chkBusy = false := by rfl
theorem test_wellFormed_compH : Instr.wellFormed bare .compH = false := by rfl
theorem test_wellFormed_sealevel : Instr.wellFormed bare .sealevel = false := by rfl
theorem test_wellFormed_avgT : Instr.wellFormed bare .avgT = false := by rfl
theorem test_wellFormed_avgH : Instr.wellFormed bare .avgH = false := by rfl
theorem test_wellFormed_avgClr : Instr.wellFormed bare .avgClr = false := by rfl
theorem test_wellFormed_avgClr_one_channel : Instr.wellFormed { bare with avgTEn := true } .avgClr = true := by rfl
theorem test_illformed_refused : decode bare (encode .chkBusy) = .error .featureAbsent := by rfl

/-! ### One step of each command, at most two a command -/

/-- 47_control.md, R240's example. -/
theorem test_nop :
    see (exec .nop { ready .standard with status := { (ready .standard).status with result := .outOfRange, rearm := true } })
      (fun t => readReg t .status) = some 0x00000300 := by decide +kernel

/-- 47_control.md, R241's example. -/
theorem test_sreset : see (exec .sreset (measured .standard)) (fun t => (readReg t .status, readReg t .tC100)) = some (0, 0) := by
  decide +kernel

/-- Vector C-3. -/
theorem test_errClr :
    see (exec .errClr { ready .standard with err := 0b11 }) (fun t => (t.err, t.status.calValid)) = some (0, true) := by
  decide +kernel

/-- 47_control.md, R243's example. -/
theorem test_errSet : see (exec (.errSet 2) { ready .standard with err := 0b01 }) (fun t => t.err) = some 0b11 := by
  decide +kernel

/-- Vector CAL-1. -/
theorem test_calLatch :
    see (exec .calLatch { State.powerOn .standard with calraw := calraw1 }) (fun t => (t.dig, readReg t .status)) =
      some (cal1, 0x00000300) := by decide +kernel

/-- Vector CAL-3: a zero `dig_T2`. -/
theorem test_calLatch_zero :
    see (exec .calLatch { measured .standard with calraw := calraw1.set 0 0x00006B70 })
      (fun t => (t.dig, t.err, readReg t .status)) = some (cal1, 0b01, 0x000002E5) := by decide +kernel

/-- Vector BSY-1, busy. -/
theorem test_chkBusy_busy :
    see (exec .chkBusy { ready .standard with sensorStatus := 0x01 }) (fun t => t.status.result) = some .sensorBusy := by
  decide +kernel

/-- Vector BSY-1, not busy. -/
theorem test_chkBusy_ready :
    see (exec .chkBusy { ready .standard with sensorStatus := 0xF6 }) (fun t => t.status.result) = some .ok := by
  decide +kernel

/-- Vector U-1. -/
theorem test_unpack :
    see (exec .unpack (burst .standard)) (fun t => (t.adcP, t.adcT, t.adcH)) = some (415148, 519888, 30000) := by
  decide +kernel

/-- Vector U-3: the reduced variant leaves `ADC_H`. -/
theorem test_unpack_reduced :
    see (exec .unpack { burst .reduced with adcH := 7 }) (fun t => (t.adcP, t.adcH)) = some (415148, 7) := by decide +kernel

/-- Vector B-5. -/
theorem test_chkBounds :
    see (exec .chkBounds { counts .standard with adcP := 0, adcH := 0xFFFF })
      (fun t => (readReg t .bound, t.status.result)) = some (0b100100, .outOfRange) := by decide +kernel

/-- Vector B-9, policy `EQ_MAX`. -/
theorem test_chkBounds_eqMax :
    see (exec .chkBounds { ready { boundPolicy := .eqMax } with adcT := 0xFFFFF, adcP := 0xFFFF0, adcH := 0xFFFF })
      (fun t => (readReg t .bound, t.status.result)) = some (0b101000, .outOfRange) := by decide +kernel

/-- 42_temperature.md, the example of R140. -/
theorem test_compT :
    see (exec .compT (counts .standard)) (fun t => (t.temp, t.status.tv)) =
      some ({ fine := 128422, c100 := 2508, int := 25, frac := ⟨8, false⟩ }, true) := by decide +kernel

/-- Vector P-1. -/
theorem test_compP :
    see (exec .compP (withT .standard)) (fun t => (t.press, t.status.pv)) =
      some ({ comp := 100656, int := 1006, frac := 56 }, true) := by decide +kernel

/-- Vector P-9: the zero denominator. -/
theorem test_compP_divz :
    see (exec .compP { withT .standard with dig := { cal1 with p1 := 1 } }) (fun t => (t.press.comp, readReg t .status)) =
      some (0, 0x00000334) := by decide +kernel

/-- Vector H-1. -/
theorem test_compH :
    see (exec .compH (withT .standard)) (fun t => t.hum) =
      some { q10 := 56317, c100 := 5499, int := 54, frac := ⟨99, false⟩ } := by decide +kernel

/-- Vector H-10: saturation with the negative coefficients of CAL-2. -/
theorem test_compH_saturates :
    see (exec .compH { withT .standard with dig := { cal1 with h4 := asU (-300), h5 := asU (-2) } })
      (fun t => (t.hum.q10, t.hum.c100)) = some (102400, 10000) := by decide +kernel

/-- Vector S-2. -/
theorem test_sealevel : see (exec .sealevel (measured { altM := 500 })) (fun t => t.slp) = some 106553 := by decide +kernel

/-- Vector S-6: below sea level. -/
theorem test_sealevel_below : see (exec .sealevel (measured { altM := -500 })) (fun t => t.slp) = some 95025 := by
  decide +kernel

/-- 46_averaging.md, the example of R224. -/
theorem test_avgT :
    see (exec .avgT (withT .standard)) (fun t => (t.avgT.win.head?, t.avgT.cnt, t.avgT.mean, t.avgT.int, t.avgT.frac)) =
      some (some 2508, 1, 2508, 25, ⟨8, false⟩) := by decide +kernel

/-- Vector A-3: `AVG_N` = 1, the second push. -/
theorem test_avgT_shifts :
    see (exec .avgT
      { withT { avgN := 1 } with
        temp := { (withT .standard).temp with c100 := 7 }
        avgT := { mean := 5, int := 0, frac := ⟨0, false⟩, cnt := 1, win := [5] } })
      (fun t => (t.avgT.win, t.avgT.mean, t.avgT.cnt)) = some ([7], 7, 1) := by decide +kernel

/-- Vector A-6. -/
theorem test_avgH :
    see (exec .avgH (measured .standard)) (fun t => (t.avgH.mean, t.avgH.int, t.avgH.frac, t.avgH.cnt)) =
      some (5499, 54, ⟨99, false⟩, 1) := by decide +kernel

/-- Vector A-4: also with `ERR` ≠ 0. -/
theorem test_avgClr :
    see (exec .avgClr
      { withT { avgN := 2 } with
        err := 0b11
        avgT := { mean := 6, int := 0, frac := ⟨6, false⟩, cnt := 2, win := [5, 7] } })
      (fun t => (t.avgT, t.status.result)) = some (AvgChan.empty 2, .ok) := by decide +kernel

/-- 47_control.md, the example of R244 (program PRG-1). -/
theorem test_measure :
    see (exec .measure { burst .standard with mode := 0b01 })
      (fun t => (t.temp.c100, t.press.comp, t.hum.c100, t.slp, t.avgT.mean, t.avgH.mean, readReg t .status)) =
      some (2508, 100656, 5499, 100656, 2508, 5499, 0x000007E0) := by decide +kernel

/-- A busy sensor: `MEASURE` reports and computes nothing (R244). -/
theorem test_measure_busy :
    see (exec .measure { burst .standard with sensorStatus := 0x08 })
      (fun t => (t.temp.c100, t.adcT, t.status.result)) = some (0, 0, .sensorBusy) := by decide +kernel

/-! ### Witnesses: a state and operands that meet the hypotheses of each statement -/

/-- The engine with the longest windows. -/
def widest : Params := { avgN := 64 }

theorem witness_PowerOnRegistersReadAsReset :
    Reg.mapped widest (.winH 63) = true ∧ (measured widest).cfg = widest ∧
      readReg (applyReset (measured widest)) .tC100 = 0 := ⟨rfl, rfl, rfl⟩

/-- The bounds of R10: the last legal and the first illegal values. -/
theorem witness_BuildRefusesIllegalParameters :
    Params.legal { avgN := 64, altM := 9000 } = true ∧ Params.legal { avgN := 1, altM := -500 } = true ∧
      Params.legal { avgN := 65 } = false ∧ Params.legal { avgN := 0 } = false ∧ Params.legal { altM := 9001 } = false ∧
      Params.legal { altM := -501 } = false ∧ Params.legal { hasH := false, avgHEn := true } = false ∧
      Params.legal { hMin := 0xFFFF } = false := by decide +kernel

/-- A legal engine with a command pending: the step statements that ask for a next state. -/
def stepping : State := asking (cmdWrite 0x00000040) (burst { altM := 9000, avgN := 64 })

theorem witness_FeaturesShowTheParameters : stepping.cfg.legal = true ∧ goesOn (step stepping) = true := by decide +kernel

theorem witness_ParametersNeverChange : stepping.cfg.altM = 9000 ∧ goesOn (step stepping) = true := by decide +kernel

theorem witness_PowerOnMeetsTheInvariant : Params.legal { avgN := 1, altM := -500 } = true := by rfl

/-- A state that has measured and averaged, with a short window and `AVG_T` pending: it meets the invariant. -/
def sampled : State :=
  { measured { avgN := 2 } with
    port := { pending := [cmdWrite 0x00000030], readData := none }
    avgT := { mean := 2509, int := 25, frac := ⟨9, false⟩, cnt := 2, win := [2508, 2510] }
    avgH := { mean := 5499, int := 54, frac := ⟨99, false⟩, cnt := 1, win := [5499, 0] } }

theorem forall_of_all {l : List Word} {P : Word → Prop} [DecidablePred P] (h : l.all (fun x => decide (P x)) = true) :
    ∀ x ∈ l, P x :=
  fun x hx => of_decide_eq_true (List.all_eq_true.1 h x hx)

theorem sampled_windowT : sampled.avgT.Inv sampled.cfg true where
  length := by decide +kernel
  count := by decide +kernel
  unused := forall_of_all (by decide +kernel)
  empty := by decide +kernel
  reported := fun _ => by decide +kernel

theorem sampled_windowH : sampled.avgH.Inv sampled.cfg true where
  length := by decide +kernel
  count := by decide +kernel
  unused := forall_of_all (by decide +kernel)
  empty := by decide +kernel
  reported := fun _ => by decide +kernel

theorem sampled_inv : sampled.Inv where
  legal := by decide +kernel
  windowT := sampled_windowT
  windowH := sampled_windowH
  coeffs :=
    { unsigned16 := forall_of_all (by decide +kernel)
      signed16 := forall_of_all (by decide +kernel)
      unsigned8 := forall_of_all (by decide +kernel)
      signed12 := forall_of_all (by decide +kernel)
      signed8 := by decide +kernel }
  valid := fun _ => forall_of_all (by decide +kernel)
  advisory := fun _ => ⟨fun _ => ⟨rfl, 0, by decide +kernel, rfl⟩, fun _ => rfl⟩
  temp := .inr (by decide +kernel)
  clamped := fun _ => by decide +kernel
  press := by decide +kernel
  hum := .inr (by decide +kernel)
  humRange := by decide +kernel
  samplesT := fun _ => forall_of_all (by decide +kernel)
  samplesH := forall_of_all (by decide +kernel)
  reduced := fun h => absurd h (by decide +kernel)
  noSealevel := fun h => absurd h (by decide +kernel)

theorem witness_StepKeepsTheInvariant :
    sampled.Inv ∧ goesOn (step sampled) = true := ⟨sampled_inv, by decide +kernel⟩

theorem witness_DecodeOfEncode : Instr.wellFormed .reduced (.errSet 3) = true := by rfl

theorem witness_EncodeOfDecode : decode .reduced 0x00000303 = .ok (.errSet 3) := by rfl

/-- A word for each clause: reserved bits, reserved opcode, absent feature, bad argument (4 is the first), legal (3 is the last). -/
theorem witness_LegalityInOrder :
    (0x00010020#32).toNat / 65536 ≠ 0 ∧
      ((0x00000004#32).toNat / 65536 = 0 ∧ (0x00000004#32).toNat % 256 = 0x04) ∧
      ((0x00000032#32).toNat % 256 = 0x32 ∧ bare.avgTEn = false ∧ bare.avgHEn = false) ∧
      ((0x00000403#32).toNat / 256 % 256 = 4 ∧ (0x00000403#32).toNat % 256 = 0x03) ∧
      ((0x00000303#32).toNat / 256 % 256 = 3 ∧ (0x00000303#32).toNat % 256 = 0x03) := by decide

/-- A legal and an illegal word pending. -/
theorem witness_StepRunsTheDecodedCommand :
    (asking (.write 0x000 4 0x00000020) (counts .standard)).port.pending = .write 0x000 4 0x00000020 :: [] ∧
      decode .standard 0x00000020 = .ok .compT ∧ decode .standard 0x00010020 = .error .reservedBits := ⟨rfl, rfl, rfl⟩

theorem witness_IdleStepAndFetchedWord :
    State.reset.port.pending = [] ∧ stepping.port.pending = cmdWrite 0x00000040 :: [] ∧
      Reg.mapped widest (.winH 63) = true ∧ featurePresent (State.powerOn bare).cfg .avgClr = false ∧
      decode State.reset.cfg (BitVec.ofNat 32 0x00000303) = .ok (.errSet 3) := ⟨rfl, rfl, rfl, rfl, rfl⟩

/-- The last mapped offset before each gap and the first unmapped one after it, and the last window entry. -/
theorem witness_MappedOffsets :
    widest.legal = true ∧ regAt widest 0x040 = some (.calraw 8) ∧ regAt widest 0x044 = none ∧
      regAt widest 0x094 = some (.dig 17) ∧ regAt widest 0x098 = none ∧ regAt widest 0x0B0 = some .adcH ∧
      regAt widest 0x0B4 = none ∧ regAt widest 0x0EC = some .slp ∧ regAt widest 0x0F0 = none ∧
      regAt widest 0x11C = some .avgHCnt ∧ regAt widest 0x120 = none ∧ regAt widest 0x2FC = some (.winT 63) ∧
      regAt widest 0x3FC = some (.winH 63) ∧ regAt .standard 0x21C = some (.winT 7) ∧ regAt .standard 0x220 = none := by
  decide +kernel

/-- One access of each bad kind faults. -/
theorem witness_OnlyAccessErrorsFault :
    see (step (asking (.read 0x044 4) (ready .standard))) (fun _ => ()) = none ∧
      see (step (asking (.read 0x005 4) (ready .standard))) (fun _ => ()) = none ∧
      see (step (asking (.write 0x0A8 2 0) (ready .standard))) (fun _ => ()) = none := by decide +kernel

theorem witness_ReadReturnsTheRegister :
    Reg.mapped widest (.winH 63) = true ∧ (Reg.winH 63).offset = 0x3FC ∧
      see (step (asking (.read 0x0C4 4) (measured .standard))) (fun t => t.port.readData) = some (some 2508) ∧
      (match memRead (measured .standard) 0x0C4 4 with | .ok v => some v | .error _ => none) = some 2508 ∧
      (Access.read 0x120 4).Bad widest := by
  refine ⟨rfl, rfl, by decide +kernel, by decide +kernel, .inr (.inr ?_)⟩
  intro r _ h
  have hr : regOfOffset r.offset = none := by rw [h]; decide +kernel
  cases r with
  | calraw k => revert k; decide +kernel
  | dig k => revert k; decide +kernel
  | winT k => revert k; decide +kernel
  | winH k => revert k; decide +kernel
  | _ => cases h

/-- The first and the last row of blocks of the register file, in a state that meets the invariant. -/
theorem witness_ReadReturnsTheRegister_rows :
    sampled.Inv ∧ [(0x020, 0), (0x040, 0), (0x050, 0x00006B70), (0x094, 30), (0x0C0, 128422), (0x0EC, 0), (0x11C, 1),
      (0x200, 2508), (0x204, 2510), (0x304, 0)].all (fun x => decide (x ∈ sampled.portImage)) = true :=
  ⟨sampled_inv, by decide +kernel⟩

/-- A write to an `RW` register with reserved bits, to a read-only register, and to `CMD`. -/
theorem witness_WriteStoresUnreservedBits :
    see (step (asking (.write 0x0A8 4 0xFFFFFFFF) (ready .standard))) (fun t => readReg t .adcP) = some 0x000FFFFF ∧
      see (step (asking (.write 0x0C4 4 1) (measured .standard))) (fun t => readReg t .tC100) = some 2508 ∧
      see (step (asking (.write 0x000 4 0x00000303) (ready .standard))) (fun t => readReg t .err) = some 3 ∧
      (Access.write 0x0A9 4 0).Bad .standard ∧ Reg.mapped .standard .adcP = true ∧ Reg.adcP.offset = 0x0A8 :=
  ⟨by decide +kernel, by decide +kernel, by decide +kernel, .inr (.inl (by decide)), rfl, rfl⟩

/-- Two states that meet every hypothesis; what they read alike determines them. -/
theorem witness_RegistersDetermineTheState :
    sampled.Inv ∧ ∀ r : Reg, r.mapped sampled.cfg = true → readReg sampled r = readReg sampled r :=
  ⟨sampled_inv, fun _ _ => rfl⟩

/-- `ERR_SET` with the first and the last argument that is too large. -/
theorem witness_ErrSetOrsTheMask :
    decode .standard (BitVec.ofNat 32 (3 + 256 * 4)) = .error .badArgument ∧
      decode .standard (BitVec.ofNat 32 (3 + 256 * 255)) = .error .badArgument := ⟨rfl, rfl⟩

/-- A latched error under a gated command, and commands that do and do not change the latch. -/
theorem witness_ErrorLatchAccumulates :
    see (exec .compT { ready .standard with err := 0b10 }) (fun t => (t.err, t.status.result)) = some (0b10, .configError) ∧
      isGated .compT = true ∧ featurePresent .standard .compT = true ∧
      see (exec (.errSet 1) { ready .standard with err := 0b10 }) (fun t => t.err) = some 0b11 := by decide +kernel

/-- Both ways the gate closes. -/
theorem witness_GateBlocksDataPath :
    State.Blocked { ready .standard with err := 0b10 } ∧ State.Blocked (State.powerOn .standard) ∧ isGated .measure = true ∧
      featurePresent .standard .measure = true := ⟨.inl (by decide), .inr rfl, rfl, rfl⟩

theorem witness_IllegalWordsOnlyReport :
    featurePresent bare .avgClr = false ∧ decode (State.powerOn bare).cfg 0x00000032 = .error .featureAbsent ∧
      decode (State.powerOn .standard).cfg 0x00000032 = .ok .avgClr := ⟨rfl, rfl, rfl⟩

theorem witness_CoefficientsChangeOnlyByLatch :
    see (exec .calLatch { State.powerOn .standard with calraw := calraw1 })
      (fun t => decide (t.dig ≠ (State.powerOn .standard).dig)) = some true := by decide +kernel

/-- A latch after a measurement, with a clear error latch. -/
theorem witness_LatchInvalidatesResults :
    see (exec .calLatch { measured .standard with calraw := calraw1 })
      (fun t => (t.status.result, t.err, featurePresent t.cfg .avgH)) = some (.ok, 0, true) := by decide +kernel

theorem witness_SplitRecomposesTheValue :
    split .default (-2508) = (-25, ⟨8, true⟩) ∧
      split .default (-50) = (0, ⟨0, true⟩) ∧ split .default 999 = (9, ⟨9, false⟩) ∧ split .default 1000 = (10, ⟨0, false⟩) := by
  decide +kernel

/-- Two states that agree on the inputs and differ elsewhere, both successful. -/
theorem witness_CompensationDependsOnlyOnInputs :
    (withT .standard).dig = (measured { altM := 9000 }).dig ∧ (withT .standard).adcT = (measured { altM := 9000 }).adcT ∧
      see (exec .compT (withT .standard)) (fun t => t.status.result) = some .ok ∧
      see (exec .compT (measured { altM := 9000 })) (fun t => t.status.result) = some .ok ∧
      see (exec .compP (withT .standard)) (fun t => t.status.result) = some .ok ∧
      see (exec .compP (measured { altM := 9000 })) (fun t => t.status.result) = some .ok := by decide +kernel

/-- Vectors S-1, S-3, S-6: an engine at, above and below sea level. -/
theorem witness_SealevelFollowsTheAltitude :
    (Params.legal { altM := -500 } = true ∧ -4000 ≤ asS (2508 : Word)) ∧ sealevelFn { altM := 0 } 100656 2508 = 100656 ∧
      sealevelFn { altM := 100 } 100656 2508 = 101812 ∧ sealevelFn { altM := -500 } 100656 2508 = 95025 := by decide +kernel

/-- A filling and a full channel that meet the invariant. -/
theorem witness_PushKeepsTheLastSamplesAndTheirMean :
    sampled.cfg.legal = true ∧ sampled.avgT.Inv sampled.cfg true ∧ ¬sampled.avgT.cnt.toNat < sampled.cfg.avgN ∧
      sampled.avgH.Inv sampled.cfg true ∧ sampled.avgH.cnt.toNat < sampled.cfg.avgN :=
  ⟨rfl, sampled_windowT, by decide, sampled_windowH, by decide⟩

theorem witness_AvgClrFollowsTheSpec : sampled.Inv := sampled_inv

/-- Vector A-1: thirteen samples into a window of eight. -/
theorem witness_WindowHoldsTheLastSamples :
    Params.standard.legal = true ∧
      (([2508, 2510, -15, 2600, 100, -4000, 8500, 7, 1, 2, 3, 4, 5] : List Int).foldl
        (fun c x => pushSample .standard (asU x) c) (AvgChan.empty 8)).mean = 565 := by decide +kernel

/-- A `MEASURE` that fails at each of its four gates. -/
theorem witness_FailingMeasureLeaves :
    see (exec .measure { burst .standard with err := 1 }) (fun t => t.status.result) = some .configError ∧
      see (exec .measure { burst .standard with sensorStatus := 1 }) (fun t => t.status.result) = some .sensorBusy ∧
      see (exec .measure { burst .standard with raw0 := 0 }) (fun t => t.status.result) = some .outOfRange ∧
      see (exec .measure { burst .standard with dig := { cal1 with p1 := 1 } }) (fun t => t.status.result) =
        some .divByZero := by decide +kernel

/-- What the two last failures leave: new counts with their flags, `ADC_H` kept in the reduced variant. -/
theorem witness_FailingMeasureLeaves_counts :
    see (exec .measure { burst .standard with raw0 := 0 }) (fun t => (t.adcH, readReg t .bound)) = some (30000, 0b000100) ∧
      see (exec .measure { burst .reduced with adcH := 7, dig := { cal1 with p1 := 1 } })
        (fun t => (t.adcP, t.adcH, readReg t .bound, t.status.divz)) = some (415148, 7, 0, true) := by decide +kernel

/-- The step commands succeed from a legal engine's state. -/
theorem witness_StepCommandsAgreeWithMeasure :
    (burst .standard).cfg.legal = true ∧
      see (runCommands (cycleCommands .standard) (burst .standard)) (fun t => (t.status.result, t.slp)) = some (.ok, 100656) := by
  decide +kernel

theorem witness_RearmOnlyAfterForcedMeasure :
    see (exec .measure { burst .standard with mode := 0b10 }) (fun t => t.status.rearm) = some true ∧
      see (exec .measure { burst .standard with mode := 0b11 }) (fun t => t.status.rearm) = some false := by decide +kernel

theorem witness_FailingCommandKeepsOutputs :
    see (exec .compH (measured .reduced)) (fun t => (t.status.result, decide (t.outputs = (measured .reduced).outputs))) =
      some (.illegalCmd, true) := by decide +kernel

/-- A command that changes a register, and is not `SRESET`. -/
theorem witness_OnlyTheNamedCommandsWrite :
    (Instr.compT ≠ .sreset) ∧ see (exec .compT (counts .standard)) (fun t => decide (t.temp ≠ (counts .standard).temp)) = some true := by
  decide +kernel

/-- Each result code of R271 is reported by some command. -/
theorem witness_ResultCodesRaisedBy :
    see (exec .compP (counts .standard)) (fun t => t.status.result) = some .sequenceError ∧
      see (exec .calLatch (ready .standard)) (fun t => t.status.result) = some .calInvalid ∧
      see (exec .avgClr (ready bare)) (fun t => t.status.result) = some .illegalCmd := by decide +kernel

/-- The three cases of `DIVZ`. -/
theorem witness_DivzWrittenOnlyAtThePressureStep :
    see (exec .compP { withT .standard with dig := { cal1 with p1 := 1 } }) (fun t => t.status.divz) = some true ∧
      see (exec .compP (setDivz true (withT .standard))) (fun t => t.status.divz) = some false ∧
      see (exec .compP (setDivz true { withT .standard with adcP := 0 })) (fun t => t.status.divz) = some true := by
  decide +kernel

theorem witness_OtherSensorStatusBitsIgnored :
    (0xF6 : BitVec 8).getLsbD 3 = (0x00 : BitVec 8).getLsbD 3 ∧ (0xF6 : BitVec 8).getLsbD 0 = (0x00 : BitVec 8).getLsbD 0 ∧
      goesOn (exec .measure (burst .standard)) = true := by decide +kernel

/-- Images that differ in bytes 24 and 33, and a burst word that differs in byte 6. -/
theorem witness_UnusedStagingBytesIgnored :
    ((List.range 36).all fun j =>
        (j = 24 ∨ 32 < j) || Exact.cb ((calraw1.set 6 0x016A4BFF).set 8 0x0000FF1E) j = Exact.cb calraw1 j) = true ∧
      (0x30FF00ED : Word).extractLsb' 0 16 = (0x307500ED : Word).extractLsb' 0 16 ∧ (burst .reduced).cfg.hasH = false := by
  decide +kernel

/-- CAL-1 as bytes, for `LOADCAL`. -/
theorem witness_PseudoInstructionsExpand :
    ([0x70, 0x6B, 0x43, 0x67, 0x18, 0xFC, 0x7D, 0x8E, 0x43, 0xD6, 0xD0, 0x0B, 0x27, 0x0B, 0x8C, 0x00, 0xF9, 0xFF, 0x8C, 0x3C,
      0xF8, 0xC6, 0x70, 0x17, 0x00, 0x4B, 0x6A, 0x01, 0x00, 0x13, 0x29, 0x03, 0x1E] : List Byte).length = 33 ∧
      ([0x65, 0x5A, 0xC0, 0x7E, 0xED, 0x00, 0x75, 0x30] : List Byte).length = 8 := by decide

theorem witness_EnginesShareNothing :
    (match stepInstance 1 [ready .standard, asking (cmdWrite 0x00000303) (ready .reduced)] with
      | .next es => es.map (fun s => s.err)
      | _ => []) = [0, 3] := by decide +kernel

end Sys2Proof.Tests
end

section
/-! Proofs of the statements of spec/00_scope.md: the legal parameter records (R10) and the word operators (R14). -/

namespace Sys2Proof.Machine
open Sys2Proof.Exact

/-! ### Legal parameter records -/

/-- The conditions of R10, read off the check. -/
theorem params_legal_iff (p : Params) :
    p.legal = true ↔
      (p.avgHEn = true → p.hasH = true) ∧ 1 ≤ p.avgN ∧ p.avgN ≤ 64 ∧ -500 ≤ p.altM ∧ p.altM ≤ 9000 ∧
        p.tMin.toNat < p.tMax.toNat ∧ p.pMin.toNat < p.pMax.toNat ∧ p.hMin.toNat < p.hMax.toNat := by
  cases havg : p.avgHEn <;> simp [Params.legal, havg, BitVec.lt_def, and_assoc]

/-- Settles O3: the check that `buildEngine` branches on holds exactly on the records of R10. -/
theorem buildRefusesIllegalParameters : Obligations.BuildRefusesIllegalParameters := by
  intro p
  simp only [buildEngine, params_legal_iff]

/-! ### Word operators -/

theorem toNat_add_word (a b : Word) : ((a + b).toNat : Int) = wrapU (a.toNat + b.toNat) := by
  simp [wrapU, BitVec.toNat_add]

/-- Settles O34: each operator by the law of `Laws/Arith.lean` that pushes a reading of a word through it. -/
theorem wordOperatorsWrapAsSpecified : Obligations.WordOperatorsWrapAsSpecified := by
  refine ⟨fun a b => ?signed, fun a n => ?signedShift, fun a b => ?unsigned, fun a n => ?unsignedShift⟩
  case signed => exact ⟨asS_add a b, asS_sub a b, asS_mul a b⟩
  case signedShift => exact ⟨asS_shiftLeft a n, asS_sra a n⟩
  case unsigned =>
    exact ⟨toNat_add_word a b, toNat_sub_word a b, toNat_mul_word a b, fun _ => BitVec.toNat_udiv⟩
  case unsignedShift => exact ⟨toNat_shiftLeft_word a n, toNat_shiftRight_word a n⟩

end Sys2Proof.Machine
end

section
/-! Proofs of the statements of spec/10_state.md: the parameters (R27, R32), the error latch (R30) and the outputs (R45). -/

namespace Sys2Proof.Machine

@[simp] theorem State.reported_cfg (s : State) (c : ResultCode) : (s.reported c).cfg = s.cfg := rfl

/-! ### What every command keeps -/

/-- How a command may change the error latch (R30): not at all, by ORing bits into it, or by clearing it. -/
inductive LatchChange (i : Instr) (e e' : BitVec 2) : Prop where
  | kept (h : e' = e)
  | ored (m : BitVec 2) (h : e' = e ||| m) (hi : i = .calLatch ∨ i = .errSet m)
  | cleared (h : e' = 0) (hi : i = .errClr ∨ i = .sreset)

/-- What a command `i` that takes `s` to `t` keeps: the parameters (R9), the error latch but for the changes of R30, and, when it
fails, the outputs (R45). -/
structure CommandKeeps (i : Instr) (s t : State) : Prop where
  cfg : t.cfg = s.cfg
  latch : LatchChange i s.err t.err
  outputs : t.status.result = .ok ∨ t.outputs = s.outputs

/-- A command that only reports keeps everything. -/
theorem commandKeeps_reported (i : Instr) (s : State) (c : ResultCode) : CommandKeeps i s (s.reported c) :=
  ⟨rfl, .kept rfl, .inr rfl⟩

@[simp] theorem acquired_outputs (s : State) : (acquired s).outputs = s.outputs := by
  simp [State.outputs]

/-- Every command, by the cases of its meaning: one that only reports, one that fails after its checks, one that succeeds. -/
theorem exec_keeps {i : Instr} {s t : State} (h : exec i s = .next t) : CommandKeeps i s t := by
  cases i with
  | nop =>
    obtain rfl := execNop_cases h
    exact commandKeeps_reported ..
  | sreset =>
    obtain rfl := execSreset_cases h
    exact ⟨rfl, .cleared rfl (.inr rfl), .inl rfl⟩
  | errClr =>
    obtain rfl := execErrClr_cases h
    exact ⟨rfl, .cleared rfl (.inl rfl), .inl rfl⟩
  | errSet m =>
    obtain rfl := execErrSet_cases h
    exact ⟨rfl, .ored m rfl (.inr rfl), .inl rfl⟩
  | calLatch =>
    obtain ⟨-, rfl⟩ | ⟨-, rfl⟩ := execCalLatch_cases h
    · exact ⟨rfl, .ored 0b01 rfl (.inl rfl), .inr rfl⟩
    · exact ⟨rfl, .kept rfl, .inl rfl⟩
  | chkBusy =>
    obtain ⟨-, rfl⟩ | ⟨-, -, rfl⟩ | ⟨-, -, -, rfl⟩ | ⟨-, -, -, rfl⟩ := execChkBusy_cases h <;>
      exact commandKeeps_reported ..
  | unpack =>
    obtain ⟨-, rfl⟩ | ⟨-, rfl⟩ := execUnpack_cases h
    · exact commandKeeps_reported ..
    · exact ⟨rfl, .kept rfl, .inl rfl⟩
  | chkBounds =>
    obtain ⟨-, rfl⟩ | ⟨-, -, rfl⟩ | ⟨-, -, rfl⟩ := execChkBounds_cases h
    · exact commandKeeps_reported ..
    · exact ⟨rfl, .kept rfl, .inr rfl⟩
    · exact ⟨rfl, .kept rfl, .inl rfl⟩
  | compT =>
    obtain ⟨-, rfl⟩ | ⟨-, -, rfl⟩ | ⟨-, -, rfl⟩ := execCompT_cases h
    · exact commandKeeps_reported ..
    · exact ⟨rfl, .kept rfl, .inr rfl⟩
    · exact ⟨rfl, .kept rfl, .inl rfl⟩
  | compP =>
    obtain ⟨-, rfl⟩ | ⟨-, -, rfl⟩ | ⟨-, -, -, rfl⟩ | ⟨-, -, -, -, rfl⟩ | ⟨-, -, -, p, -, rfl⟩ := execCompP_cases h
    · exact commandKeeps_reported ..
    · exact commandKeeps_reported ..
    · exact ⟨rfl, .kept rfl, .inr rfl⟩
    · exact ⟨rfl, .kept rfl, .inr rfl⟩
    · exact ⟨rfl, .kept rfl, .inl rfl⟩
  | compH =>
    obtain ⟨-, rfl⟩ | ⟨-, -, rfl⟩ | ⟨-, -, -, rfl⟩ | ⟨-, -, -, -, rfl⟩ | ⟨-, -, -, -, rfl⟩ := execCompH_cases h
    · exact commandKeeps_reported ..
    · exact commandKeeps_reported ..
    · exact commandKeeps_reported ..
    · exact ⟨rfl, .kept rfl, .inr rfl⟩
    · exact ⟨rfl, .kept rfl, .inl rfl⟩
  | sealevel =>
    obtain ⟨-, rfl⟩ | ⟨-, -, rfl⟩ | ⟨-, -, -, rfl⟩ | ⟨-, -, -, -, rfl⟩ := execSealevel_cases h
    · exact commandKeeps_reported ..
    · exact commandKeeps_reported ..
    · exact commandKeeps_reported ..
    · exact ⟨rfl, .kept rfl, .inl rfl⟩
  | avgT =>
    obtain ⟨-, rfl⟩ | ⟨-, -, rfl⟩ | ⟨-, -, -, rfl⟩ | ⟨-, -, -, rfl⟩ := execAvgT_cases h
    · exact commandKeeps_reported ..
    · exact commandKeeps_reported ..
    · exact commandKeeps_reported ..
    · exact ⟨rfl, .kept rfl, .inl rfl⟩
  | avgH =>
    obtain ⟨-, rfl⟩ | ⟨-, -, rfl⟩ | ⟨-, -, -, rfl⟩ | ⟨-, -, -, rfl⟩ := execAvgH_cases h
    · exact commandKeeps_reported ..
    · exact commandKeeps_reported ..
    · exact commandKeeps_reported ..
    · exact ⟨rfl, .kept rfl, .inl rfl⟩
  | avgClr =>
    obtain ⟨-, -, rfl⟩ | ⟨-, rfl⟩ := execAvgClr_cases h
    · exact commandKeeps_reported ..
    · exact ⟨rfl, .kept rfl, .inl rfl⟩
  | measure =>
    obtain ⟨-, rfl⟩ | ⟨-, -, -, rfl⟩ | ⟨-, -, -, rfl⟩ | ⟨-, -, -, -, rfl⟩ | ⟨-, -, -, p, -, rfl⟩ :=
      execMeasure_cases h
    · exact commandKeeps_reported ..
    · exact commandKeeps_reported ..
    · exact ⟨acquired_cfg s, .kept (acquired_err s), .inr (acquired_outputs s)⟩
    · exact ⟨acquired_cfg s, .kept (acquired_err s), .inr (acquired_outputs s)⟩
    · exact ⟨acquired_cfg s, .kept (acquired_err s), .inl rfl⟩

/-! ### What a step can do -/

/-- R80, R88: a word written to `CMD` runs its command, or only reports. -/
theorem runCommand_cases {w : Word} {s t : State} (h : runCommand w s = .next t) :
    (∃ i : Instr, decode s.cfg w = .ok i ∧ exec i s = .next t) ∨
    (∃ e : Illegal, decode s.cfg w = .error e ∧ t = s.reported .illegalCmd) := by
  simp only [runCommand, illegalWord_eq] at h
  split at h
  · exact .inl ⟨_, ‹_›, h⟩
  · cases h
    exact .inr ⟨_, ‹_›, rfl⟩

/-- R62: a write to a register other than `CMD` is a store. -/
theorem writeReg_of_ne_cmd {r : Reg} (s : State) (v : Word) (h : r ≠ .cmd) : writeReg s r v = .next (storeReg s r v) := by
  cases r with
  | cmd => contradiction
  | _ => rfl

/-- R61, R62: an access that is served reads or writes the register it reaches. -/
theorem serve_cases {a : Access} {s t : State} (h : serve a s = .next t) :
    (∃ off bytes r, a = .read off bytes ∧ accessReg s.cfg off bytes = .ok r ∧ t = returnData s (readReg s r)) ∨
    (∃ off bytes v r, a = .write off bytes v ∧ accessReg s.cfg off bytes = .ok r ∧ writeReg s r v = .next t) := by
  cases a with
  | read off bytes =>
    rw [serve_read] at h
    split at h <;> cases h
    exact .inl ⟨_, _, _, rfl, ‹_›, rfl⟩
  | write off bytes v =>
    rw [serve_write] at h
    split at h
    · exact .inr ⟨_, _, _, _, rfl, ‹_›, h⟩
    · cases h

theorem runCommand_cfg {w : Word} {s t : State} (h : runCommand w s = .next t) : t.cfg = s.cfg := by
  obtain ⟨i, -, hexec⟩ | ⟨e, -, rfl⟩ := runCommand_cases h
  · exact (exec_keeps hexec).cfg
  · exact s.reported_cfg _

theorem writeReg_cfg {r : Reg} {v : Word} {s t : State} (h : writeReg s r v = .next t) : t.cfg = s.cfg := by
  by_cases hr : r = .cmd
  · subst hr
    exact runCommand_cfg h
  · rw [writeReg_of_ne_cmd s v hr] at h
    cases h
    exact storeReg_cfg s r v

theorem serve_cfg {a : Access} {s t : State} (h : serve a s = .next t) : t.cfg = s.cfg := by
  obtain ⟨off, bytes, r, -, -, rfl⟩ | ⟨off, bytes, v, r, -, -, hwrite⟩ := serve_cases h
  · rfl
  · exact writeReg_cfg hwrite

/-- R9: "none changes while the engine runs". -/
theorem step_cfg {s t : State} (h : step s = .next t) : t.cfg = s.cfg := by
  cases hpending : s.port.pending with
  | nil =>
    rw [step_idle hpending] at h
    cases h
    rfl
  | cons a rest =>
    rw [step_access hpending] at h
    exact (serve_cfg h).trans (s.setPort_cfg _)

/-! ### `FEATURES` and `SITE_ALT` -/

theorem getLsbD_flagBit (b : Bool) (k n : Nat) : (flagBit b k).getLsbD n = (decide (n < 32 ∧ n = k) && b) := by
  have hplace : (n < 32 ∧ k ≤ n) ∧ n - k = 0 ↔ n < 32 ∧ n = k := by omega
  cases b with
  | false => simp [flagBit]
  | true =>
    rw [Bool.eq_iff_iff]
    simpa [flagBit] using hplace

/-- The flags of R27 at their bits, and the reserved bit above them. -/
theorem featuresWord_flags (p : Params) :
    let w := featuresWord p
    w.getLsbD 0 = p.hasH ∧ w.getLsbD 1 = p.pCenti ∧ w.getLsbD 2 = decide (p.boundPolicy = .eqMax) ∧
      w.getLsbD 3 = p.busyCheck ∧ w.getLsbD 4 = p.avgTEn ∧ w.getLsbD 5 = p.avgHEn ∧ w.getLsbD 6 = p.sealevelEn ∧
      w.getLsbD 7 = false := by
  have hpolicy : (p.boundPolicy == .eqMax) = decide (p.boundPolicy = .eqMax) := rfl
  simp [featuresWord, getLsbD_flagBit, hpolicy, -BitVec.getLsbD_eq_getElem]

/-- Above the flags `FEATURES` holds `AVG_N` only: no flag reaches bit 8 (R27). -/
theorem getLsbD_featuresWord_of_le (p : Params) {n : Nat} (hlo : 8 ≤ n) (hhi : n < 32) :
    (featuresWord p).getLsbD n = (BitVec.ofNat 8 p.avgN).getLsbD (n - 8) := by
  have hflag : ∀ (b : Bool) (k : Nat), k < 8 → (flagBit b k).getLsbD n = false := by
    intro b k hk
    have hne : n ≠ k := by omega
    simp [getLsbD_flagBit, hne]
  have hshift : n - 8 < 32 := by omega
  simp [featuresWord, hflag, hhi, hshift, Nat.not_lt.2 hlo, -BitVec.getLsbD_eq_getElem]

/-- Bits 15:8 of `FEATURES` are those of `AVG_N` (R27). -/
theorem featuresWord_avgN (p : Params) : (featuresWord p).extractLsb' 8 8 = BitVec.ofNat 8 p.avgN := by
  ext k hk
  rw [BitVec.getElem_extractLsb', getLsbD_featuresWord_of_le p (by omega) (by omega), Nat.add_sub_cancel_left,
    BitVec.getLsbD_eq_getElem]

/-- Bits 31:16 of `FEATURES` are reserved (R27). -/
theorem featuresWord_reserved (p : Params) : (featuresWord p).extractLsb' 16 16 = 0#16 := by
  ext k hk
  rw [BitVec.getElem_extractLsb', getLsbD_featuresWord_of_le p (by omega) (by omega), BitVec.getLsbD_of_ge _ _ (by omega),
    BitVec.getElem_zero]

/-- Settles O4: the fields bit by bit; `AVG_N` ≤ 64 fits its eight bits, and no step changes the parameters they show. -/
theorem featuresShowTheParameters : Obligations.FeaturesShowTheParameters := by
  intro s hlegal
  obtain ⟨-, -, hn, -⟩ := (params_legal_iff s.cfg).1 hlegal
  obtain ⟨h0, h1, h2, h3, h4, h5, h6, h7⟩ := featuresWord_flags s.cfg
  have havg : ((featuresWord s.cfg).extractLsb' 8 8).toNat = s.cfg.avgN := by
    rw [featuresWord_avgN, BitVec.toNat_ofNat]
    omega
  exact ⟨⟨rfl, rfl⟩, ⟨h0, h1, h2, h3, h4, h5, h6, h7, havg, featuresWord_reserved s.cfg⟩,
    fun t hstep => congrArg featuresWord (step_cfg hstep)⟩

/-- Settles O5: an altitude of a legal engine fits the signed word, and no step changes the parameters. -/
theorem parametersNeverChange : Obligations.ParametersNeverChange := by
  refine ⟨rfl, rfl, fun s => ⟨fun hlegal => ?reads, fun t hstep => ?constant⟩⟩
  case reads =>
    obtain ⟨-, -, -, hlo, hhi, -⟩ := (params_legal_iff s.cfg).1 hlegal
    exact (asS_asU s.cfg.altM).trans (wrapS_of_range (by omega))
  case constant =>
    have hcfg := step_cfg hstep
    exact ⟨hcfg, congrArg (fun p : Params => asU p.altM) hcfg⟩

/-! ### The error latch -/

/-- ORing bits into the latch clears none. -/
theorem LatchChange.accumulates {i : Instr} {e e' : BitVec 2} (h : LatchChange i e e') (hclr : i ≠ .errClr)
    (hreset : i ≠ .sreset) : e' &&& e = e := by
  cases h with
  | kept h => rw [h, BitVec.and_self]
  | ored m h =>
    rw [h]
    ext k
    simp +contextual
  | cleared _ hi => exact absurd hi (not_or.2 ⟨hclr, hreset⟩)

/-- The commands that may change the latch. -/
theorem LatchChange.writer {i : Instr} {e e' : BitVec 2} (h : LatchChange i e e') (hne : e' ≠ e) :
    i = .calLatch ∨ i = .errClr ∨ i = .sreset ∨ ∃ m : BitVec 2, i = .errSet m := by
  cases h with
  | kept h => contradiction
  | ored m _ hi =>
    obtain hi | hi := hi
    · exact .inl hi
    · exact .inr (.inr (.inr ⟨m, hi⟩))
  | cleared _ hi =>
    obtain hi | hi := hi
    · exact .inr (.inl hi)
    · exact .inr (.inr (.inl hi))

/-- R120: with the gate closed a gated command of the engine only reports `CONFIG_ERROR`. -/
theorem exec_gated_of_blocked {i : Instr} {s : State} (hgated : isGated i = true) (hpresent : featurePresent s.cfg i = true)
    (hblocked : s.Blocked) : exec i s = .next (s.reported .configError) := by
  have hclosed := (gateClosed_beginCmd s).2 hblocked
  have hfeature : ¬(!featurePresent s.cfg i) = true := by simp [hpresent]
  cases i with
  | unpack | chkBounds | compT | compP | measure => exact if_pos hclosed
  | chkBusy | compH | sealevel | avgT | avgH =>
    exact (if_neg hfeature).trans (if_pos hclosed)
  | _ => cases hgated

/-- Settles O24: the latch by what every command keeps of it, the gate by R120, and the register is read-only. -/
theorem errorLatchAccumulates : Obligations.ErrorLatchAccumulates := by
  refine ⟨fun i s t h => ?latch, fun i s hgated hpresent herr => ?gate, ⟨rfl, rfl, fun s v => rfl⟩, fun s => rfl⟩
  case latch =>
    have hlatch := (exec_keeps h).latch
    exact ⟨hlatch.accumulates, hlatch.writer⟩
  case gate => exact ⟨_, exec_gated_of_blocked hgated hpresent (.inl herr), rfl⟩

/-! ### Outputs -/

/-- No output register is writable (R22). -/
theorem storeReg_outputs (s : State) (r : Reg) (v : Word) : (storeReg s r v).outputs = s.outputs := by
  cases r <;> rfl

/-- Settles O52: by what every command keeps, and by what a store writes. -/
theorem failingCommandKeepsOutputs : Obligations.FailingCommandKeepsOutputs := by
  refine ⟨fun i s t h hfailed => ?command, storeReg_outputs⟩
  case command => exact (exec_keeps h).outputs.resolve_left hfailed

end Sys2Proof.Machine
end

section
/-! Proofs of the statements of spec/20_memory.md: the address map (R72), access errors (R63, R75), reads (R61), writes (R62)
and reserved bits (R76). -/

namespace Sys2Proof.Machine

/-! ### Reserved bits -/

/-- A field at bit `k` sets no bit outside the field. -/
theorem field_reserved {n : Nat} (x : BitVec n) {k : Nat} {m : Word}
    (h : (BitVec.allOnes n).setWidth 32 <<< k &&& ~~~m = 0) : x.setWidth 32 <<< k &&& ~~~m = 0 := by
  have hsub : x.setWidth 32 <<< k = x.setWidth 32 <<< k &&& (BitVec.allOnes n).setWidth 32 <<< k := by
    rw [← BitVec.shiftLeft_and_distrib, ← BitVec.setWidth_and, BitVec.and_allOnes]
  rw [hsub, BitVec.and_assoc, h]
  exact BitVec.and_zero

/-- A field at bit 0. -/
theorem lowField_reserved {n : Nat} (x : BitVec n) {m : Word} (h : (BitVec.allOnes n).setWidth 32 &&& ~~~m = 0) :
    x.setWidth 32 &&& ~~~m = 0 := by
  have hplace : (BitVec.allOnes n).setWidth 32 <<< 0 &&& ~~~m = 0 := by rwa [BitVec.shiftLeft_zero]
  simpa using field_reserved x hplace

theorem flagBit_reserved (b : Bool) {k : Nat} {m : Word} (h : flagBit true k &&& ~~~m = 0) : flagBit b k &&& ~~~m = 0 :=
  field_reserved (BitVec.ofBool b) h

theorem statusWord_reservedBits (f : Status) : statusWord f &&& ~~~0x000007FF = 0 := by
  simp (disch := decide) only [statusWord, BitVec.and_or_distrib_right, lowField_reserved, flagBit_reserved, BitVec.or_self]

theorem boundWord_reservedBits (b : Bound) : boundWord b &&& ~~~0x0000003F = 0 := by
  simp (disch := decide) only [boundWord, BitVec.and_or_distrib_right, flagBit_reserved, BitVec.or_self]

theorem featuresWord_reservedBits (p : Params) : featuresWord p &&& ~~~0x0000FF7F = 0 := by
  simp (disch := decide) only [featuresWord, BitVec.and_or_distrib_right, field_reserved, flagBit_reserved, BitVec.or_self]

theorem fracWord_reservedBits (f : Frac) : fracWord f &&& ~~~0x000001FF = 0 := by
  simp (disch := decide) only [fracWord, BitVec.and_or_distrib_right, lowField_reserved, flagBit_reserved, BitVec.or_self]

theorem word_reservedBits (w : Word) : w &&& ~~~0xFFFFFFFF = 0 := BitVec.and_zero

/-- Every register is a constant, a whole word, or made of fields within its bits. -/
theorem readReg_reserved (s : State) (r : Reg) : readReg s r &&& ~~~r.implemented = 0 := by
  cases r with
  | cmd => exact BitVec.zero_and
  | status => exact statusWord_reservedBits s.status
  | features => exact featuresWord_reservedBits s.cfg
  | bound => exact boundWord_reservedBits s.bound
  | tFrac => exact fracWord_reservedBits s.temp.frac
  | hFrac => exact fracWord_reservedBits s.hum.frac
  | avgTFrac => exact fracWord_reservedBits s.avgT.frac
  | avgHFrac => exact fracWord_reservedBits s.avgH.frac
  | err | sensorStatus | mode | adcP | adcT | adcH => exact lowField_reserved _ (by decide)
  | _ => exact word_reservedBits _

/-- A store into a field keeps the bits outside it and takes the others from the value (R62, R76). -/
theorem setWidth_extractLsb'_eq_merge {n : Nat} (x : BitVec n) (v : Word) :
    (v.extractLsb' 0 n).setWidth 32 =
      (x.setWidth 32 &&& ~~~((BitVec.allOnes n).setWidth 32)) ||| (v &&& (BitVec.allOnes n).setWidth 32) := by
  ext i hi
  by_cases hin : i < n
  · simp [hin, hi, BitVec.getElem_setWidth]
  · simp [hin, hi, BitVec.getElem_setWidth, BitVec.getLsbD_of_ge x i (Nat.not_lt.1 hin)]

/-- R62, R76: a stored register reads back its writable bits from the value and the others as before. -/
theorem readReg_storeReg_same (s : State) (r : Reg) (v : Word) :
    readReg (storeReg s r v) r = (readReg s r &&& ~~~r.writable) ||| (v &&& r.writable) := by
  have hreadOnly (w : Word) : w = (w &&& ~~~0#32) ||| (v &&& 0#32) := by
    rw [BitVec.not_zero, BitVec.and_allOnes, BitVec.and_zero, BitVec.or_zero]
  have hwhole (w : Word) : v = (w &&& ~~~BitVec.allOnes 32) ||| (v &&& BitVec.allOnes 32) := by
    rw [BitVec.not_allOnes, BitVec.and_zero, BitVec.and_allOnes, BitVec.zero_or]
  cases r with
  | calraw k => exact (Vector.getElem_set_self k.isLt).trans (hwhole _)
  | raw0 | raw1 => exact hwhole _
  | sensorStatus | mode | adcP | adcT | adcH => exact setWidth_extractLsb'_eq_merge _ v
  | _ => exact hreadOnly _

/-- Settles O18: a field narrower than the word leaves the bits above it 0, and the staging words are stored whole. -/
theorem reservedBitsReadZero : Obligations.ReservedBitsReadZero := by
  refine ⟨readReg_reserved, fun s v => ⟨fun k => ?_, rfl, rfl⟩⟩
  exact Vector.getElem_set_self k.isLt

/-! ### Every access is served or is an access error -/

/-- The outcome is a next state, no fault and no refusal. -/
def Completes (o : Out) : Prop := ∃ t : State, o = .next t

theorem Completes.finish (c : ResultCode) (s : State) : Completes (finish c s) := ⟨_, rfl⟩

/-- A check of a command: it completes when it does on either side. -/
theorem Completes.ite {P : Prop} [Decidable P] {o o' : Out} (h : Completes o) (h' : Completes o') :
    Completes (if P then o else o') := by
  split
  · exact h
  · exact h'

/-- R281: a command is a tree of checks with a completion at every leaf. -/
theorem exec_completes (i : Instr) (s : State) : Completes (exec i s) := by
  have done : ∀ (c : ResultCode) (s : State), Completes (finish c s) := .finish
  cases i with
  | nop | sreset | errClr | errSet => exact done _ _
  | calLatch | unpack | avgClr => exact .ite (done _ _) (done _ _)
  | chkBounds | compT => exact .ite (done _ _) (.ite (done _ _) (done _ _))
  | chkBusy | sealevel | avgT | avgH => exact .ite (done _ _) (.ite (done _ _) (.ite (done _ _) (done _ _)))
  | compH => exact .ite (done _ _) (.ite (done _ _) (.ite (done _ _) (.ite (done _ _) (done _ _))))
  | compP | measure =>
    refine .ite (done _ _) (.ite (done _ _) (.ite (done _ _) ?_))
    split
    · exact done _ _
    · exact done _ _

theorem runCommand_completes (w : Word) (s : State) : Completes (runCommand w s) := by
  rw [runCommand]
  split
  · exact exec_completes _ s
  · exact .finish _ _

theorem writeReg_completes (s : State) (r : Reg) (v : Word) : Completes (writeReg s r v) := by
  by_cases hr : r = .cmd
  · subst hr
    exact runCommand_completes v s
  · exact ⟨_, writeReg_of_ne_cmd s v hr⟩

/-- R61-R63, R75: an access is an access error and faults, or it is served. -/
theorem serve_faults_or_completes (a : Access) (s : State) :
    (a.Bad s.cfg ∧ ∃ f : Fault, serve a s = .fault f) ∨ (¬a.Bad s.cfg ∧ Completes (serve a s)) := by
  cases a with
  | read off bytes =>
    have hbad : (Access.read off bytes).Bad s.cfg ↔ _ := (accessReg_error_iff s.cfg off bytes).symm
    rw [hbad, serve_read]
    cases accessReg s.cfg off bytes with
    | error f => exact .inl ⟨⟨f, rfl⟩, f, rfl⟩
    | ok r => exact .inr ⟨nofun, _, rfl⟩
  | write off bytes v =>
    have hbad : (Access.write off bytes v).Bad s.cfg ↔ _ := (accessReg_error_iff s.cfg off bytes).symm
    rw [hbad, serve_write]
    cases accessReg s.cfg off bytes with
    | error f => exact .inl ⟨⟨f, rfl⟩, f, rfl⟩
    | ok r => exact .inr ⟨nofun, writeReg_completes s r v⟩

theorem serve_faults_iff (a : Access) (s : State) : (∃ f : Fault, serve a s = .fault f) ↔ a.Bad s.cfg := by
  obtain ⟨hbad, hfault⟩ | ⟨hgood, t, hnext⟩ := serve_faults_or_completes a s
  · exact iff_of_true hfault hbad
  · exact iff_of_false (by simp [hnext]) hgood

theorem serve_not_refused (a : Access) (s : State) (r : Refusal) : serve a s ≠ .refused r := by
  obtain ⟨-, f, h⟩ | ⟨-, t, h⟩ := serve_faults_or_completes a s <;> simp [h]

/-- Settles O15: a step is idle or serves the oldest access, in a state with the same parameters. -/
theorem onlyAccessErrorsFault : Obligations.OnlyAccessErrorsFault := by
  refine ⟨fun a s => ⟨serve_faults_iff a s, serve_not_refused a s⟩, fun s => ?step⟩
  cases hpending : s.port.pending with
  | nil => simp [step_idle hpending]
  | cons a rest =>
    rw [step_access hpending]
    refine ⟨(serve_faults_iff a _).trans ⟨fun hbad => ⟨a, rest, rfl, hbad⟩, ?_⟩, serve_not_refused a _⟩
    rintro ⟨a', rest', heq, hbad⟩
    cases heq
    exact hbad

/-! ### Writes -/

/-- Settles O17: a write reaches the mapped register with its offset, where it is a store, or the command on `CMD`. -/
theorem writeStoresUnreservedBits : Obligations.WriteStoresUnreservedBits := by
  intro s off v
  refine ⟨(serve_faults_iff _ s).2, ?store, ?command⟩
  case store =>
    rintro r hmapped rfl hne
    refine ⟨storeReg s r v, ?_, storeReg_cfg s r v, storeReg_port s r v, fun r' => ?_⟩
    · rw [serve_write, accessReg_ok hmapped]
      exact writeReg_of_ne_cmd s v hne
    · split
      · subst r'
        exact readReg_storeReg_same s r v
      · exact readReg_storeReg_of_ne s v ‹_›
  case command =>
    rintro rfl
    have hcmd : accessReg s.cfg 0x000#10 4 = .ok .cmd := accessReg_ok (r := .cmd) rfl
    rw [serve_write, hcmd]
    rfl

/-! ### The register file row by row -/

/-- The blocks of R22 that every engine maps: the offset of the first register of each, and its registers in order. -/
def fixedBlocks : List (Nat × List Reg) :=
  [(0x000, [.cmd, .status, .err, .features, .sensorStatus, .mode, .bound, .siteAlt]),
    (0x020, (List.finRange 9).map .calraw),
    (0x050, (List.finRange 18).map .dig),
    (0x0A0, [.raw0, .raw1, .adcP, .adcT, .adcH]),
    (0x0C0, [.tFine, .tC100, .tInt, .tFrac, .pComp, .pInt, .pFrac, .hQ10, .hC100, .hInt, .hFrac, .slp]),
    (0x100, [.avgT, .avgTInt, .avgTFrac, .avgTCnt, .avgH, .avgHInt, .avgHFrac, .avgHCnt])]

/-- The registers of a block stand at consecutive words. -/
theorem fixedBlocks_offsets {b : Nat × List Reg} (h : b ∈ fixedBlocks) :
    b.2.map Reg.offset = (List.range b.2.length).map fun k => BitVec.ofNat 10 (b.1 + 4 * k) := by
  revert b
  decide

/-- The blocks are aligned and end inside the port. -/
theorem fixedBlocks_fit {b : Nat × List Reg} (h : b ∈ fixedBlocks) : b.1 % 4 = 0 ∧ b.1 + 4 * b.2.length ≤ 0x400 := by
  revert b
  decide

/-- R72: a register outside the blocks is a window entry. -/
theorem mem_fixedBlocks_or_window (r : Reg) :
    (∃ b ∈ fixedBlocks, r ∈ b.2) ∨ (∃ i, r = .winT i) ∨ ∃ i, r = .winH i := by
  cases r with
  | winT i => exact .inr (.inl ⟨i, rfl⟩)
  | winH i => exact .inr (.inr ⟨i, rfl⟩)
  | calraw k | dig k => simp [fixedBlocks]
  | _ => exact .inl (by decide)

/-- Every engine maps the registers of the blocks. -/
theorem mapped_of_mem_fixedBlocks (p : Params) {b : Nat × List Reg} {r : Reg} (hb : b ∈ fixedBlocks) (hr : r ∈ b.2) :
    r.mapped p = true := by
  cases r with
  | winT i | winH i =>
    revert b
    simp [fixedBlocks]
  | _ => rfl

/-- The mapped registers of R72: those of the blocks and the populated window entries of the enabled channels. -/
theorem exists_mapped_iff (p : Params) (Q : Reg → Prop) :
    (∃ r : Reg, Q r ∧ r.mapped p = true) ↔
      (∃ b ∈ fixedBlocks, ∃ r ∈ b.2, Q r) ∨ (∃ i : Fin 64, (p.avgTEn = true ∧ i.val < p.avgN) ∧ Q (.winT i)) ∨
        ∃ i : Fin 64, (p.avgHEn = true ∧ i.val < p.avgN) ∧ Q (.winH i) := by
  constructor
  · rintro ⟨r, hQ, hmapped⟩
    obtain ⟨b, hb, hr⟩ | ⟨i, rfl⟩ | ⟨i, rfl⟩ := mem_fixedBlocks_or_window r
    · exact .inl ⟨b, hb, r, hr, hQ⟩
    · exact .inr (.inl ⟨i, by simpa [Reg.mapped] using hmapped, hQ⟩)
    · exact .inr (.inr ⟨i, by simpa [Reg.mapped] using hmapped, hQ⟩)
  · rintro (⟨b, hb, r, hr, hQ⟩ | ⟨i, hi, hQ⟩ | ⟨i, hi, hQ⟩)
    · exact ⟨r, hQ, mapped_of_mem_fixedBlocks p hb hr⟩
    · exact ⟨.winT i, hQ, by simpa [Reg.mapped] using hi⟩
    · exact ⟨.winH i, hQ, by simpa [Reg.mapped] using hi⟩

/-! ### The address map -/

/-- The offsets of `n` consecutive words. -/
theorem exists_wordOffset_iff {base n : Nat} {off : BitVec 10} (haligned : base % 4 = 0) (hfit : base + 4 * n ≤ 0x400) :
    (∃ k < n, BitVec.ofNat 10 (base + 4 * k) = off) ↔
      off.toNat % 4 = 0 ∧ base ≤ off.toNat ∧ off.toNat < base + 4 * n := by
  constructor
  · rintro ⟨k, hk, rfl⟩
    rw [BitVec.toNat_ofNat]
    omega
  · rintro ⟨hmod, hlo, hhi⟩
    refine ⟨(off.toNat - base) / 4, by omega, BitVec.eq_of_toNat_eq ?_⟩
    rw [BitVec.toNat_ofNat]
    omega

/-- The offsets of the blocks, ranges that meet joined. -/
theorem exists_fixedOffset_iff (off : BitVec 10) :
    (∃ b ∈ fixedBlocks, ∃ r ∈ b.2, r.offset = off) ↔
      off.toNat % 4 = 0 ∧
        (off.toNat < 0x044 ∨ (0x050 ≤ off.toNat ∧ off.toNat < 0x098) ∨ (0x0A0 ≤ off.toNat ∧ off.toNat < 0x0B4) ∨
          (0x0C0 ≤ off.toNat ∧ off.toNat < 0x0F0) ∨ (0x100 ≤ off.toNat ∧ off.toNat < 0x120)) := by
  have hblock : ∀ b ∈ fixedBlocks, (∃ r ∈ b.2, r.offset = off) ↔
      off.toNat % 4 = 0 ∧ b.1 ≤ off.toNat ∧ off.toNat < b.1 + 4 * b.2.length := by
    intro b hb
    obtain ⟨haligned, hfit⟩ := fixedBlocks_fit hb
    rw [← exists_wordOffset_iff haligned hfit, ← List.mem_map, fixedBlocks_offsets hb, List.mem_map]
    simp only [List.mem_range]
  refine (exists_congr fun b => and_congr_right (hblock b)).trans ?_
  simp only [fixedBlocks, List.mem_cons, List.not_mem_nil, or_false, exists_eq_or_imp, zero_le, List.length_cons,
    List.length_nil, zero_add, Nat.reduceAdd, Nat.reduceMul, true_and, List.length_map, List.length_finRange,
    ↓existsAndEq]
  omega

/-- The offsets of a window's populated entries. -/
theorem exists_windowOffset_iff {base n : Nat} {en : Bool} {off : BitVec 10} (haligned : base % 4 = 0)
    (hfit : base + 4 * n ≤ 0x400) (hn : n ≤ 64) :
    (∃ i : Fin 64, (en = true ∧ i.val < n) ∧ BitVec.ofNat 10 (base + 4 * i.val) = off) ↔
      off.toNat % 4 = 0 ∧ en = true ∧ base ≤ off.toNat ∧ off.toNat < base + 4 * n := by
  rw [and_left_comm, ← exists_wordOffset_iff haligned hfit]
  constructor
  · rintro ⟨i, ⟨hen, hi⟩, hoff⟩
    exact ⟨hen, i, hi, hoff⟩
  · rintro ⟨hen, k, hk, hoff⟩
    exact ⟨⟨k, by omega⟩, ⟨hen, hk⟩, hoff⟩

/-- Settles O14: the blocks, and the windows of an engine whose `AVG_N` is at most 64, are the ranges of R72. -/
theorem mappedOffsets : Obligations.MappedOffsets := by
  intro p off hlegal
  refine ⟨?ranges, fun r => regAt_eq_some⟩
  obtain ⟨-, -, hn, -⟩ := (params_legal_iff p).1 hlegal
  have hT : (∃ i : Fin 64, (p.avgTEn = true ∧ i.val < p.avgN) ∧ (Reg.winT i).offset = off) ↔ _ :=
    exists_windowOffset_iff rfl (by omega) hn
  have hH : (∃ i : Fin 64, (p.avgHEn = true ∧ i.val < p.avgN) ∧ (Reg.winH i).offset = off) ↔ _ :=
    exists_windowOffset_iff rfl (by omega) hn
  simp only [regAt_eq_some]
  rw [exists_mapped_iff, exists_fixedOffset_iff, hT, hH, ← and_or_left, ← and_or_left]
  simp only [or_assoc]

/-! ### Reads -/

/-- The blocks and the windows are the rows of the register file (R22). -/
theorem portImage_eq (s : State) :
    s.portImage =
      (fixedBlocks.flatMap fun b => b.2.map fun r => (r.offset, readReg s r)) ++ wordsAt 0x200 s.avgT.win ++
        wordsAt 0x300 s.avgH.win := by
  have hcal : s.calraw.toList = (List.finRange 9).map s.calraw.get := by
    apply List.ext_getElem <;> simp [Vector.get]
  rw [State.portImage, hcal]
  rfl

/-- The rows of a window are its populated entries. -/
theorem mem_windowRows {c : AvgChan} {en : Bool} {n base : Nat} (hlength : c.win.length = windowLength en n) (hn : n ≤ 64)
    (off : BitVec 10) (v : Word) :
    (off, v) ∈ wordsAt base c.win ↔
      ∃ i : Fin 64, (en = true ∧ i.val < n) ∧ BitVec.ofNat 10 (base + 4 * i.val) = off ∧ c.win.getD i.val 0 = v := by
  have hpopulated : ∀ k, k < c.win.length ↔ en = true ∧ k < n := by
    intro k
    cases en <;> simp [hlength, windowLength]
  rw [mem_wordsAt]
  constructor
  · rintro ⟨k, hk, rfl⟩
    obtain ⟨hlt, rfl⟩ := List.getElem?_eq_some_iff.1 hk
    have hen := (hpopulated k).1 hlt
    exact ⟨⟨k, by omega⟩, hen, rfl, by simp [hlt]⟩
  · rintro ⟨i, hi, rfl, rfl⟩
    have hlt := (hpopulated i).2 hi
    exact ⟨i, by simp [hlt], rfl⟩

/-- R22, R61: from a state that meets the invariant the reads that return a value are the rows of the register file. -/
theorem memRead_eq_ok_iff_mem_portImage {s : State} (h : s.Inv) (off : BitVec 10) (v : Word) :
    memRead s off 4 = .ok v ↔ (off, v) ∈ s.portImage := by
  obtain ⟨-, -, hn, -⟩ := (params_legal_iff s.cfg).1 h.legal
  have hread : memRead s off 4 = .ok v ↔ ∃ r : Reg, (r.offset = off ∧ readReg s r = v) ∧ r.mapped s.cfg = true := by
    rw [memRead_eq_ok]
    exact exists_congr fun r => by rw [and_right_comm, and_assoc]
  rw [hread, exists_mapped_iff, portImage_eq, List.mem_append, List.mem_append, mem_windowRows h.windowT.length hn,
    mem_windowRows h.windowH.length hn, or_assoc]
  refine or_congr ?_ Iff.rfl
  simp only [List.mem_flatMap, List.mem_map, Prod.mk.injEq]

/-- Settles O16: a mapped register is reached at its offset, the host's side of the port is no register, and the rows of the
register file are the mapped registers. -/
theorem readReturnsTheRegister : Obligations.ReadReturnsTheRegister := by
  intro s off
  refine ⟨fun hbad => ⟨?noValue, (serve_faults_iff _ s).2 hbad⟩, ?value, rfl, rfl,
    fun hinv => memRead_eq_ok_iff_mem_portImage hinv off⟩
  case noValue =>
    obtain ⟨f, hf⟩ := (accessReg_error_iff s.cfg off 4).2 hbad
    exact ⟨f, by rw [memRead, hf]⟩
  case value =>
    rintro r hmapped rfl
    have hreach := accessReg_ok hmapped
    refine ⟨by rw [memRead, hreach], returnData s (readReg s r), by rw [serve_read, hreach], ?_⟩
    exact readReg_setPort s _

end Sys2Proof.Machine
end

section
/-! Proofs of the statements of spec/30_encoding.md: the legality checks (R84-R87), what a word written to `CMD` does (R86, R88)
and the pseudo-instructions (R91). -/

namespace Sys2Proof.Machine
open Sys2Proof.Laws

/-! ### The fields of a word -/

theorem opcField_toNat (w : Word) : (opcField w).toNat = w.toNat % 256 := by
  simp [opcField]

theorem argField_toNat (w : Word) : (argField w).toNat = w.toNat / 256 % 256 := by
  simp [argField, Nat.shiftRight_eq_div_pow]

theorem rsvField_toNat (w : Word) : (rsvField w).toNat = w.toNat / 65536 := by
  have hw := w.isLt
  rw [rsvField, BitVec.extractLsb'_toNat, Nat.shiftRight_eq_div_pow]
  omega

theorem rsvField_eq_zero_iff (w : Word) : rsvField w = 0 ↔ w.toNat / 65536 = 0 := by
  rw [← rsvField_toNat]
  exact BitVec.toNat_inj.symm

/-! ### The columns of the opcode table -/

/-- The opcodes of R82. -/
def mapOpcodes : List Nat :=
  [0x00, 0x01, 0x02, 0x03, 0x08, 0x10, 0x11, 0x12, 0x20, 0x21, 0x22, 0x23, 0x30, 0x31, 0x32, 0x40]

/-- The "needs" column of R82 by opcode. -/
def OpcodeNeeds (p : Params) (opc : Nat) : Prop :=
  (opc = 0x10 → p.busyCheck = true) ∧ (opc = 0x22 → p.hasH = true) ∧ (opc = 0x23 → p.sealevelEn = true) ∧
    (opc = 0x30 → p.avgTEn = true) ∧ (opc = 0x31 → p.avgHEn = true) ∧ (opc = 0x32 → p.avgTEn = true ∨ p.avgHEn = true)

/-- The opcode map gives a command at its opcode only. -/
theorem opcode_of_opcodeMap {opc : BitVec 8} {m : BitVec 2} {i : Instr} (h : opcodeMap opc m = some i) : opcode i = opc := by
  rw [opcodeMap] at h
  split at h <;> cases h <;> exact BitVec.eq_of_toNat_eq (Eq.symm ‹opc.toNat = _›)

/-- The reserved opcodes are those outside the list of R82. -/
theorem opcodeMap_eq_none_iff (opc : BitVec 8) (m : BitVec 2) : opcodeMap opc m = none ↔ opc.toNat ∉ mapOpcodes := by
  rw [opcodeMap]
  split
  case h_17 => -- the arm of the reserved opcodes
    refine iff_of_true rfl ?_
    simp only [mapOpcodes, List.mem_cons, List.not_mem_nil]
    tauto
  all_goals simp [mapOpcodes, *]

theorem wellFormed_iff_opcodeNeeds (p : Params) (i : Instr) : i.wellFormed p = true ↔ OpcodeNeeds p (opcode i).toNat := by
  cases i <;> simp [Instr.wellFormed, featurePresent, OpcodeNeeds, opcode]

/-- Check 4 of R84: only `ERR_SET`, whose opcode is 3, takes an argument, and it takes two bits. -/
theorem argumentOk_iff (i : Instr) (arg : BitVec 8) :
    argumentOk i arg = true ↔ arg.toNat = 0 ∨ ((opcode i).toNat = 0x03 ∧ arg.toNat < 4) := by
  cases i with
  | errSet m =>
    have hlt := arg.isLt
    have hhigh : argumentOk (.errSet m) arg = true ↔ (arg.extractLsb' 2 6).toNat = 0 := by
      simp [argumentOk, ← BitVec.toNat_inj]
    rw [hhigh, BitVec.extractLsb'_toNat, Nat.shiftRight_eq_div_pow]
    have hopc : (opcode (.errSet m)).toNat = 0x03 := rfl
    omega
  | _ => simp [argumentOk, opcode, ← BitVec.toNat_inj]

/-! ### The four checks -/

section
variable {p : Params} {w : Word}

theorem decode_of_rsvField_ne_zero (h : rsvField w ≠ 0) : decode p w = .error .reservedBits := if_pos h

theorem decode_of_opcodeMap_none (hrsv : rsvField w = 0)
    (hmap : opcodeMap (opcField w) ((argField w).extractLsb' 0 2) = none) : decode p w = .error .reservedOpcode := by
  rw [decode, if_neg (not_not.2 hrsv), hmap]

theorem decode_of_opcodeMap_some {i : Instr} (hrsv : rsvField w = 0)
    (hmap : opcodeMap (opcField w) ((argField w).extractLsb' 0 2) = some i) :
    decode p w =
      if i.wellFormed p = true then if argumentOk i (argField w) = true then .ok i else .error .badArgument
      else .error .featureAbsent := by
  rw [decode, if_neg (not_not.2 hrsv), hmap]
  dsimp only
  cases i.wellFormed p <;> cases argumentOk i (argField w) <;> rfl

end

/-- Settles O10: the opcode map decides check 2, and gives the command whose "needs" and operand are checks 3 and 4. -/
theorem legalityInOrder : Obligations.LegalityInOrder := by
  intro p w rsv arg opc needs inMap argFits
  have hrsv : rsvField w = 0 ↔ rsv = 0 := rsvField_eq_zero_iff w
  have hreserved : opcodeMap (opcField w) ((argField w).extractLsb' 0 2) = none ↔ ¬inMap := by
    rw [opcodeMap_eq_none_iff, opcField_toNat]
    rfl
  cases hmap : opcodeMap (opcField w) ((argField w).extractLsb' 0 2) with
  | none =>
    have hout := hreserved.1 hmap
    exact ⟨fun h => decode_of_rsvField_ne_zero (mt hrsv.1 h), fun h _ => decode_of_opcodeMap_none (hrsv.2 h) hmap,
      fun _ hin => absurd hin hout, fun _ hin => absurd hin hout, fun _ hin => absurd hin hout⟩
  | some i =>
    have hin : ¬¬inMap := by simp [← hreserved, hmap]
    have hopc : (opcode i).toNat = opc := by rw [opcode_of_opcodeMap hmap, opcField_toNat]
    have hneeds : i.wellFormed p = true ↔ needs := by
      rw [wellFormed_iff_opcodeNeeds, hopc]
      rfl
    have hfits : argumentOk i (argField w) = true ↔ argFits := by rw [argumentOk_iff, hopc, argField_toNat]
    refine ⟨fun h => decode_of_rsvField_ne_zero (mt hrsv.1 h), fun _ h => absurd h hin, fun h _ habsent => ?absent,
      fun h _ hhas hbad => ?badArgument, fun h _ hhas harg => ⟨i, ?legal⟩⟩
    case absent => rw [decode_of_opcodeMap_some (hrsv.2 h) hmap, if_neg (mt hneeds.1 habsent)]
    case badArgument =>
      rw [decode_of_opcodeMap_some (hrsv.2 h) hmap, if_pos (hneeds.2 hhas), if_neg (mt hfits.1 hbad)]
    case legal => rw [decode_of_opcodeMap_some (hrsv.2 h) hmap, if_pos (hneeds.2 hhas), if_pos (hfits.2 harg)]

/-! ### The word of a command -/

/-- Every command's word against its row of the opcode table. -/
theorem encodingFits : ∀ i : Instr, EncodingFits.Statement i
  | .nop => EncodingFits.nop
  | .sreset => EncodingFits.sreset
  | .errClr => EncodingFits.errClr
  | .errSet m => EncodingFits.errSet m
  | .calLatch => EncodingFits.calLatch
  | .chkBusy => EncodingFits.chkBusy
  | .unpack => EncodingFits.unpack
  | .chkBounds => EncodingFits.chkBounds
  | .compT => EncodingFits.compT
  | .compP => EncodingFits.compP
  | .compH => EncodingFits.compH
  | .sealevel => EncodingFits.sealevel
  | .avgT => EncodingFits.avgT
  | .avgH => EncodingFits.avgH
  | .avgClr => EncodingFits.avgClr
  | .measure => EncodingFits.measure

theorem rsvField_encode (i : Instr) : rsvField (encode i) = 0 := by
  cases i with
  | errSet m => revert m; decide
  | _ => rfl

theorem argumentOk_encode (i : Instr) : argumentOk i (argField (encode i)) = true := by
  cases i with
  | errSet m => revert m; decide
  | _ => rfl

/-- R86: the word of a command stands for it in the engines that have its feature, and is illegal in the others. -/
theorem decode_encode (p : Params) (i : Instr) :
    decode p (encode i) = if i.wellFormed p = true then .ok i else .error .featureAbsent := by
  obtain ⟨-, hmap⟩ := encodingFits i
  rw [decode_of_opcodeMap_some (rsvField_encode i) hmap, if_pos (argumentOk_encode i)]

/-! ### A write to `CMD` -/

theorem memWrite_of_mapped {s : State} {r : Reg} (h : r.mapped s.cfg = true) (v : Word) :
    memWrite s r.offset 4 v = writeReg s r v := by
  rw [memWrite, accessReg_ok h]

theorem memWrite_cmd (s : State) (w : Word) : memWrite s 0x000 4 w = runCommand w s :=
  memWrite_of_mapped (r := .cmd) rfl w

theorem runCommand_of_decode_ok {s : State} {w : Word} {i : Instr} (h : decode s.cfg w = .ok i) :
    runCommand w s = exec i s := by
  rw [runCommand, h]

theorem runCommand_of_decode_error {s : State} {w : Word} {e : Illegal} (h : decode s.cfg w = .error e) :
    runCommand w s = .next (s.reported .illegalCmd) := by
  rw [runCommand, h]
  exact illegalWord_eq s

/-- R88: every command clears `REARM` first, so it does not see a cleared one. -/
theorem exec_beginCmd (i : Instr) (s : State) : exec i (beginCmd s) = exec i s := by
  cases i <;> rfl

/-- Settles O26: the word of an absent command fails check 3, and `CMD` runs what the word decodes to. -/
theorem illegalWordsOnlyReport : Obligations.IllegalWordsOnlyReport := by
  refine ⟨fun i p => ⟨?needs, fun habsent => ?absent⟩, fun s w => ⟨fun e h => ?illegal, fun i h => ?legal⟩⟩
  case needs => cases i <;> rfl
  case absent =>
    have hlacks : ¬i.wellFormed p = true := by simp [Instr.wellFormed, habsent]
    rw [decode_encode, if_neg hlacks]
  case illegal => rw [memWrite_cmd, runCommand_of_decode_error h]
  case legal =>
    rw [memWrite_cmd, runCommand_of_decode_ok h]
    exact (exec_beginCmd i s).symm

/-! ### Serving the accesses of a line -/

theorem serveAll_singleton (a : Access) (s : State) : serveAll [a] s = serve a s := by
  rw [serveAll]
  cases serve a s <;> rfl

/-- A store is served and the next access follows. -/
theorem serveAll_wrReg_cons {s : State} (r : Reg) (hmapped : r.mapped s.cfg = true) (hne : r ≠ .cmd) (v : Word)
    (rest : List Access) : serveAll (wrReg r v :: rest) s = serveAll rest (storeReg s r v) := by
  have hserve : serve (wrReg r v) s = .next (storeReg s r v) :=
    (memWrite_of_mapped hmapped v).trans (writeReg_of_ne_cmd s v hne)
  rw [serveAll, hserve]

/-- The line of a command that the engine has runs it. -/
theorem serveAll_cmd {s : State} {i : Instr} (h : i.wellFormed s.cfg = true) :
    serveAll [wrReg .cmd (encode i)] s = exec i s := by
  have hdecode : decode s.cfg (encode i) = .ok i := by rw [decode_encode, if_pos h]
  rw [serveAll_singleton]
  exact (memWrite_cmd s _).trans (runCommand_of_decode_ok hdecode)

/-! ### Packed bytes -/

theorem packWord_toNat (b : List Byte) (k : Nat) :
    (packWord b k).toNat =
      (b.getD (4 * k + 3) 0).toNat * 2 ^ 24 + (b.getD (4 * k + 2) 0).toNat * 2 ^ 16 +
        (b.getD (4 * k + 1) 0).toNat * 2 ^ 8 + (b.getD (4 * k) 0).toNat := by
  have h0 := (b.getD (4 * k) 0).isLt
  have h1 := (b.getD (4 * k + 1) 0).isLt
  have h2 := (b.getD (4 * k + 2) 0).isLt
  simp only [packWord, BitVec.toNat_append]
  rw [shiftLeft_or_eq_add h2, shiftLeft_or_eq_add h1, shiftLeft_or_eq_add h0]
  omega

/-- R91: byte `j` of the list is byte lane `j mod 4` of word `j / 4`. -/
theorem byteOf_packWord (b : List Byte) (j : Nat) : Exact.byteOf (packWord b (j / 4)) j = (b.getD j 0).toNat := by
  have h0 := (b.getD (4 * (j / 4)) 0).isLt
  have h1 := (b.getD (4 * (j / 4) + 1) 0).isLt
  have h2 := (b.getD (4 * (j / 4) + 2) 0).isLt
  have h3 := (b.getD (4 * (j / 4) + 3) 0).isLt
  have hj : b.getD j 0 = b.getD (4 * (j / 4) + j % 4) 0 := by rw [Nat.div_add_mod]
  rw [Exact.byteOf, packWord_toNat, hj]
  have hlane : j % 4 < 4 := Nat.mod_lt j (by decide)
  generalize j % 4 = l at hlane
  match l, hlane with
  | 0, _ =>
    rw [Nat.add_zero (4 * (j / 4))]
    omega
  | 1, _ | 2, _ | 3, _ => omega

/-- The calibration image of a list of bytes. -/
def packImage (b : List Byte) : Vector Word 9 := Vector.ofFn fun k => packWord b k.val

theorem cb_packImage (b : List Byte) {j : Nat} (h : j < 36) : Exact.cb (packImage b) j = (b.getD j 0).toNat := by
  have hk : j / 4 < 9 := by omega
  have hword : (packImage b).toList.getD (j / 4) 0 = packWord b (j / 4) := by
    simp [packImage, hk]
  rw [Exact.cb, hword, byteOf_packWord]

theorem bb_packWord (b : List Byte) {j : Nat} (h : j < 8) :
    Exact.bb (packWord b 0) (packWord b 1) j = (b.getD j 0).toNat := by
  have hword : (if j < 4 then packWord b 0 else packWord b 1) = packWord b (j / 4) := by
    split
    · rw [Nat.div_eq_of_lt ‹_›]
    · have hk : j / 4 = 1 := by omega
      rw [hk]
  rw [Exact.bb, hword, byteOf_packWord]

/-! ### Filling the calibration image -/

/-- The calibration image after the writes of `f` to the words `ks`, in order. -/
def fillImage (f : Fin 9 → Word) (ks : List (Fin 9)) (img : Vector Word 9) : Vector Word 9 :=
  ks.foldl (fun img k => img.set k.val (f k)) img

theorem serveAll_calraw (f : Fin 9 → Word) (rest : List Access) (ks : List (Fin 9)) (s : State) :
    serveAll (ks.map (fun k => wrReg (.calraw k) (f k)) ++ rest) s =
      serveAll rest (s.setCalraw (fillImage f ks s.calraw)) := by
  induction ks generalizing s with
  | nil => rfl
  | cons k ks ih =>
    rw [List.map_cons, List.cons_append, serveAll_wrReg_cons (.calraw k) rfl nofun, ih]
    rfl

theorem getElem_fillImage (f : Fin 9 → Word) (ks : List (Fin 9)) (img : Vector Word 9) (k : Fin 9) :
    (fillImage f ks img)[k] = if k ∈ ks then f k else img[k] := by
  induction ks generalizing img with
  | nil => rfl
  | cons k' ks ih =>
    rw [fillImage, List.foldl_cons, ← fillImage, ih]
    by_cases hk : k = k'
    · subst hk
      simp
    · have hval : k'.val ≠ k.val := fun h => hk (Fin.ext h.symm)
      simp [hk, hval]

/-- Nine writes, one per word, fill the image whatever it held. -/
theorem fillImage_finRange (f : Fin 9 → Word) (img : Vector Word 9) : fillImage f (List.finRange 9) img = Vector.ofFn f := by
  refine Vector.ext fun k hk => ?_
  simpa using getElem_fillImage f (List.finRange 9) img ⟨k, hk⟩

/-- Settles O58: the writes of an expansion are stores, and `CAL_LATCH` and `ERR_CLR` are commands of every engine. -/
theorem pseudoInstructionsExpand : Obligations.PseudoInstructionsExpand := by
  refine ⟨fun s b _ => ⟨packImage b, fun j => cb_packImage b, ?loadCal⟩,
    fun s b _ => ⟨packWord b 0, packWord b 1, fun j => bb_packWord b, ?loadRaw⟩, fun s t p h => ?setAdc,
    fun s => serveAll_cmd rfl⟩
  case loadCal =>
    rw [AsmLine.expand, serveAll_calraw, fillImage_finRange]
    exact serveAll_cmd rfl
  case loadRaw =>
    rw [AsmLine.expand, serveAll_wrReg_cons .raw0 rfl nofun, serveAll_wrReg_cons .raw1 rfl nofun]
    rfl
  case setAdc =>
    rw [AsmLine.expand, serveAll_wrReg_cons .adcT rfl nofun, serveAll_wrReg_cons .adcP rfl nofun,
      serveAll_wrReg_cons .adcH rfl nofun]
    rfl

end Sys2Proof.Machine
end

section
/-! Proofs of the statements of spec/40_calibration.md: `CAL_LATCH` (R101-R108), what changes the coefficients (R109) and what a
new set leaves of the old results (R111). -/

namespace Sys2Proof.Machine

/-! ### The calibration image -/

theorem calByte_toNat (img : Vector Word 9) (j : Fin 36) : (calByte img j).toNat = Exact.cb img j.val := by
  have hk : j.val / 4 < 9 := by omega
  have hword : img.toList.getD (j.val / 4) 0 = img.get ⟨j.val / 4, hk⟩ := by
    simp [hk, Vector.get]
  rw [calByte, lane_toNat, Exact.cb, hword]

/-- Two's complement by the sign bit and by the size of the number (R15). -/
theorem sextInt_eq_signed {n : Nat} (hn : 0 < n) (v : BitVec n) : sextInt v = Exact.signed n v.toNat := by
  have hhalf : 2 * v.toNat < 2 ^ n ↔ v.toNat < 2 ^ (n - 1) := by
    rw [← Nat.two_pow_pred_mul_two hn]
    omega
  simp only [sextInt, BitVec.toInt_eq_toNat_cond, hhalf, Exact.signed]
  push_cast
  rfl

/-- R65, R101: the byte at the lower address is the low one. -/
theorem le16_toNat (lo hi : Byte) : (le16 lo hi).toNat = lo.toNat + 256 * hi.toNat := by
  rw [le16, BitVec.toNat_append, shiftLeft_or_eq_add lo.isLt]
  omega

theorem nibbled_toNat (hi : Byte) (lo : BitVec 4) : (nibbled hi lo).toNat = hi.toNat * 16 + lo.toNat := by
  rw [nibbled, BitVec.toNat_append, shiftLeft_or_eq_add lo.isLt]
  rfl

theorem lowNibble_toNat (b : Byte) : (b.extractLsb' 0 4).toNat = b.toNat % 16 := by
  simp

theorem highNibble_toNat (b : Byte) : (b.extractLsb' 4 4).toNat = b.toNat / 16 := by
  have hb := b.isLt
  rw [BitVec.extractLsb'_toNat, Nat.shiftRight_eq_div_pow]
  omega

/-- R101-R103: the unpacked image is the table, coefficient by coefficient. -/
theorem unpackCal_eq_coefficients (hasH : Bool) (img : Vector Word 9) :
    unpackCal hasH img = Exact.coefficients hasH img := by
  simp (disch := decide) only [unpackCal, zextInt, sextInt_eq_signed, le16_toNat, nibbled_toNat, lowNibble_toNat,
    highNibble_toNat, calByte_toNat]
  rfl

/-! ### The checks on the coefficients -/

/-- R105: the zero check covers the twelve temperature and pressure coefficients. -/
theorem tpZero_iff (c : CoeffSet Int) : c.tpZero = true ↔ ∃ v ∈ Exact.tpList c, v = 0 := by
  simp [CoeffSet.tpZero, Exact.tpList, or_assoc, @eq_comm Int 0]

/-- R108: the advisory covers the six humidity coefficients. -/
theorem humZero_iff (c : CoeffSet Int) : c.humZero = true ↔ ∃ v ∈ Exact.humList c, v = 0 := by
  simp [CoeffSet.humZero, Exact.humList, or_assoc, @eq_comm Int 0]

/-- Settles O28: the image unpacks to the table, and the two halves of R104 are the two outcomes of the zero check. -/
theorem calLatchFollowsTheSpec : Obligations.CalLatchFollowsTheSpec := by
  refine ⟨rfl, ?_⟩
  intro s c
  have hunpack : unpackCal s.cfg.hasH s.calraw = c := unpackCal_eq_coefficients ..
  have hhcz : (s.cfg.hasH && c.humZero) = decide (s.cfg.hasH = true ∧ ∃ v ∈ Exact.humList c, v = 0) := by
    rw [Bool.eq_iff_iff, Bool.and_eq_true, humZero_iff, decide_eq_true_iff]
  obtain ⟨t, h⟩ := exec_completes .calLatch s
  have hcases := execCalLatch_cases h
  rw [hunpack, hhcz] at hcases
  obtain ⟨hzero, ht⟩ | ⟨hnonzero, ht⟩ := hcases
  · rw [h, ht, if_pos ((tpZero_iff c).1 hzero)]
    rfl
  · rw [h, ht, if_neg (mt (tpZero_iff c).2 (by simp [hnonzero]))]

/-! ### What changes the coefficients -/

/-- R109, by the cases of each command's meaning. -/
theorem exec_dig {i : Instr} {s t : State} (h : exec i s = .next t) :
    t.dig = s.dig ∨ (i = .calLatch ∧ t.status.result = .ok) ∨ i = .sreset := by
  cases i with
  | calLatch =>
    obtain ⟨-, rfl⟩ | ⟨-, rfl⟩ := execCalLatch_cases h
    · exact .inl rfl
    · exact .inr (.inl ⟨rfl, rfl⟩)
  | sreset => exact .inr (.inr rfl)
  | nop =>
    obtain rfl := execNop_cases h
    exact .inl rfl
  | errClr =>
    obtain rfl := execErrClr_cases h
    exact .inl rfl
  | errSet m =>
    obtain rfl := execErrSet_cases h
    exact .inl rfl
  | chkBusy =>
    obtain ⟨-, rfl⟩ | ⟨-, -, rfl⟩ | ⟨-, -, -, rfl⟩ | ⟨-, -, -, rfl⟩ := execChkBusy_cases h <;> exact .inl rfl
  | unpack => obtain ⟨-, rfl⟩ | ⟨-, rfl⟩ := execUnpack_cases h <;> exact .inl rfl
  | chkBounds => obtain ⟨-, rfl⟩ | ⟨-, -, rfl⟩ | ⟨-, -, rfl⟩ := execChkBounds_cases h <;> exact .inl rfl
  | compT => obtain ⟨-, rfl⟩ | ⟨-, -, rfl⟩ | ⟨-, -, rfl⟩ := execCompT_cases h <;> exact .inl rfl
  | compP =>
    obtain ⟨-, rfl⟩ | ⟨-, -, rfl⟩ | ⟨-, -, -, rfl⟩ | ⟨-, -, -, -, rfl⟩ | ⟨-, -, -, p, -, rfl⟩ := execCompP_cases h <;>
      exact .inl rfl
  | compH =>
    obtain ⟨-, rfl⟩ | ⟨-, -, rfl⟩ | ⟨-, -, -, rfl⟩ | ⟨-, -, -, -, rfl⟩ | ⟨-, -, -, -, rfl⟩ := execCompH_cases h <;>
      exact .inl rfl
  | sealevel =>
    obtain ⟨-, rfl⟩ | ⟨-, -, rfl⟩ | ⟨-, -, -, rfl⟩ | ⟨-, -, -, -, rfl⟩ := execSealevel_cases h <;> exact .inl rfl
  | avgT => obtain ⟨-, rfl⟩ | ⟨-, -, rfl⟩ | ⟨-, -, -, rfl⟩ | ⟨-, -, -, rfl⟩ := execAvgT_cases h <;> exact .inl rfl
  | avgH => obtain ⟨-, rfl⟩ | ⟨-, -, rfl⟩ | ⟨-, -, -, rfl⟩ | ⟨-, -, -, rfl⟩ := execAvgH_cases h <;> exact .inl rfl
  | avgClr => obtain ⟨-, -, rfl⟩ | ⟨-, rfl⟩ := execAvgClr_cases h <;> exact .inl rfl
  | measure =>
    obtain ⟨-, rfl⟩ | ⟨-, -, -, rfl⟩ | ⟨-, -, -, rfl⟩ | ⟨-, -, -, -, rfl⟩ | ⟨-, -, -, p, -, rfl⟩ := execMeasure_cases h
    · exact .inl rfl
    · exact .inl rfl
    · exact .inl (acquired_dig s)
    · exact .inl (acquired_dig s)
    · exact .inl (acquired_dig s)

/-- No coefficient register is writable (R22). -/
theorem storeReg_dig (s : State) (r : Reg) (v : Word) : (storeReg s r v).dig = s.dig := by
  cases r <;> rfl

/-- Settles O29: by what every command leaves in the coefficient registers, and by what a store writes. -/
theorem coefficientsChangeOnlyByLatch : Obligations.CoefficientsChangeOnlyByLatch :=
  ⟨fun _ _ _ h hne => (exec_dig h).resolve_left hne, storeReg_dig⟩

/-! ### What a new set leaves of the old results -/

/-- The sequence check: with the gate open and no valid result a command that reads results only reports `SEQUENCE_ERROR`. -/
theorem exec_of_no_valid_result {i : Instr} {s : State} (hi : i ∈ [Instr.compP, .compH, .sealevel, .avgT, .avgH])
    (hpresent : featurePresent s.cfg i = true) (hopen : ¬s.Blocked) (htv : s.status.tv = false)
    (hhv : s.status.hv = false) : exec i s = .next (s.reported .sequenceError) := by
  have hfeature : ¬(!featurePresent s.cfg i) = true := by simp [hpresent]
  have hgate := mt (gateClosed_beginCmd s).1 hopen
  have hnoT : (!(beginCmd s).status.tv) = true := by simp [htv]
  have hnoTP : (!(beginCmd s).status.tv || !(beginCmd s).status.pv) = true := by simp [htv]
  have hnoH : (!(beginCmd s).status.hv) = true := by simp [hhv]
  cases i with
  | compP => exact (if_neg hgate).trans (if_pos hnoT)
  | compH | avgT => exact (if_neg hfeature).trans ((if_neg hgate).trans (if_pos hnoT))
  | sealevel => exact (if_neg hfeature).trans ((if_neg hgate).trans (if_pos hnoTP))
  | avgH => exact (if_neg hfeature).trans ((if_neg hgate).trans (if_pos hnoH))
  | _ => simp at hi

/-- Settles O30: a successful latch clears the valid flags and sets `CAL_VALID`, so the gate is open when `ERR` is 0. -/
theorem latchInvalidatesResults : Obligations.LatchInvalidatesResults := by
  intro s t h hok
  obtain ⟨-, rfl⟩ | ⟨-, rfl⟩ := execCalLatch_cases h
  · cases hok
  · refine ⟨rfl, rfl, rfl, rfl, fun i hi hpresent herr => ?_⟩
    exact exec_of_no_valid_result hi hpresent (not_or.2 ⟨not_not.2 herr, nofun⟩) rfl rfl

end Sys2Proof.Machine
end

section
/-! Proofs of the statements of spec/41_acquisition.md: the configuration gate (R120), `CHK_BUSY` (R121, R122), `UNPACK`
(R123, R124) and `CHK_BOUNDS` (R126-R129). -/

namespace Sys2Proof.Machine

/-! ### The configuration gate -/

/-- The outcome does not report `CONFIG_ERROR`. -/
def NoConfigError (o : Out) : Prop := ∀ t : State, o = .next t → t.status.result ≠ .configError

theorem NoConfigError.finish {c : ResultCode} {s : State} (hc : c ≠ .configError := by decide) :
    NoConfigError (finish c s) := by
  intro t h
  rw [finish_eq_next] at h
  subst h
  exact hc

theorem NoConfigError.ite {P : Prop} [Decidable P] {o o' : Out} (h : NoConfigError o) (h' : NoConfigError o') :
    NoConfigError (if P then o else o') := by
  split
  · exact h
  · exact h'

/-- R120: an open gate lets the command go on. -/
theorem NoConfigError.gate {s : State} (hopen : ¬s.Blocked) {o : Out} (h : NoConfigError o) :
    NoConfigError (if gateClosed (beginCmd s) then Machine.finish .configError (beginCmd s) else o) := by
  rw [if_neg (mt (gateClosed_beginCmd s).1 hopen)]
  exact h

/-- R120: past an open gate, and in a command without one, every check reports another code. -/
theorem exec_noConfigError {i : Instr} {s : State} (h : isGated i = true → ¬s.Blocked) : NoConfigError (exec i s) := by
  cases i with
  | nop | sreset | errClr | errSet => exact .finish
  | calLatch | avgClr => exact .ite .finish .finish
  | unpack => exact .gate (h rfl) .finish
  | chkBounds | compT => exact .gate (h rfl) (.ite .finish .finish)
  | chkBusy | sealevel | avgT | avgH =>
    exact .ite .finish (.gate (h rfl) (.ite .finish .finish))
  | compH =>
    exact .ite .finish (.gate (h rfl) (.ite .finish (.ite .finish .finish)))
  | compP | measure =>
    refine .gate (h rfl) (.ite .finish (.ite .finish ?_))
    split
    · exact .finish
    · exact .finish

/-- Settles O25: a closed gate blocks, and past an open one no check reports `CONFIG_ERROR`. -/
theorem gateBlocksDataPath : Obligations.GateBlocksDataPath := by
  refine fun i s => ⟨exec_gated_of_blocked, fun t h hconfig => ?_⟩
  by_contra hopen
  exact exec_noConfigError (not_and.1 hopen) t h hconfig

/-! ### `CHK_BUSY` -/

/-- R122: the two bits of `SENSOR_STATUS` that `CHK_BUSY` reads, as digits of its value. -/
theorem sensorBusy_iff (st : BitVec 8) : sensorBusy st = true ↔ st.toNat / 8 % 2 = 1 ∨ st.toNat % 2 = 1 := by
  simp [sensorBusy, BitVec.getLsbD, Nat.testBit_eq_decide_div_mod_eq]

/-- Settles O31, by the four cases of the command. -/
theorem chkBusyFollowsTheSpec : Obligations.ChkBusyFollowsTheSpec := by
  refine ⟨rfl, fun s => ?_⟩
  simp only [← sensorBusy_iff]
  obtain ⟨t, h⟩ := exec_completes .chkBusy s
  obtain ⟨habsent, rfl⟩ | ⟨hbusy, hclosed, rfl⟩ | ⟨hbusy, hopen, hsensor, rfl⟩ | ⟨hbusy, hopen, hsensor, rfl⟩ :=
    execChkBusy_cases h
  · rw [h, if_pos habsent]
  · rw [h, if_neg (by simp [hbusy]), if_pos hclosed]
  · rw [h, if_neg (by simp [hbusy]), if_neg hopen, if_pos hsensor]
  · rw [h, if_neg (by simp [hbusy]), if_neg hopen, if_neg (by simp [hsensor])]

/-! ### `UNPACK` -/

/-- Settles O32: the counts are those of the burst bytes, and the reduced variant keeps `ADC_H`. -/
theorem unpackFollowsTheSpec : Obligations.UnpackFollowsTheSpec := by
  refine ⟨rfl, fun s => ?_⟩
  obtain ⟨t, h⟩ := exec_completes .unpack s
  refine ⟨t, h, ?_⟩
  obtain ⟨hclosed, rfl⟩ | ⟨hopen, rfl⟩ := execUnpack_cases h
  · rw [if_pos hclosed]
  · rw [if_neg hopen]
    refine ⟨rfl, burstP_toNat .., burstT_toNat .., ?_⟩
    split
    case isTrue => exact burstH_toNat ..
    case isFalse => rfl

/-! ### `CHK_BOUNDS` -/

/-- Settles O33: the flags are those of the bound predicate, and their register is 0 when none is 1. -/
theorem chkBoundsFollowsTheSpec : Obligations.ChkBoundsFollowsTheSpec := by
  refine ⟨rfl, ?_⟩
  intro s b
  have hbound : (checkAll s).bound = b := by rw [checkAll_eq, State.setBound_bound]
  obtain ⟨t, h⟩ := exec_completes .chkBounds s
  have hcases := execChkBounds_cases h
  rw [hbound] at hcases
  obtain ⟨hclosed, rfl⟩ | ⟨hopen, hany, rfl⟩ | ⟨hopen, hnone, rfl⟩ := hcases
  · rw [h, if_pos hclosed]
  · rw [h, if_neg hopen, if_neg (mt (boundWord_eq_zero b).1 (by simp [hany]))]
  · rw [h, if_neg hopen, if_pos ((boundWord_eq_zero b).2 hnone)]

end Sys2Proof.Machine
end

section
/-! Proofs of the statements of spec/42_temperature.md: `COMP_T` (R140, R142-R145), the display split (R141) and what the results
depend on (R147 and, in spec/43_pressure.md, R170). -/

namespace Sys2Proof.Machine

/-! ### `COMP_T` -/

theorem BoundPair.any_eq_true_iff (b : BoundPair) : b.any = true ↔ b.low = true ∨ b.high = true := Bool.or_eq_true_iff

/-- R145: the registers `COMP_T` writes hold the temperature of the formula over wrapped integers. -/
theorem tempOut_compT (r : SplitRule) (hasH : Bool) (c : CoeffSet Word) (adc : BitVec 20) :
    tempOut r (compT hasH c adc).1 (compT hasH c adc).2 =
      tempOf r (Exact.tFine c adc.toNat) (Exact.tC100 hasH (Exact.tFine c adc.toNat)) := by
  rw [tempOut_eq, compT_fst_eq, compT_snd_eq]

/-- Settles O35, by the three cases of the command: its flags are those of the bound predicate and its registers those of the
exact formula. -/
theorem compTFollowsTheSpec : Obligations.CompTFollowsTheSpec := by
  refine ⟨rfl, ?_⟩
  intro s b s₁ tf
  have hbound : (checkT s).bound = s₁.bound := by
    rw [checkT, checkPair_eq]
    rfl
  obtain ⟨t, h⟩ := exec_completes .compT s
  have hcases := execCompT_cases h
  rw [hbound, tempOut_compT] at hcases
  obtain ⟨hclosed, rfl⟩ | ⟨hopen, hany, rfl⟩ | ⟨hopen, hnone, rfl⟩ := hcases
  · rw [h, if_pos hclosed]
  · rw [h, if_neg hopen, if_pos (b.any_eq_true_iff.1 hany)]
  · rw [h, if_neg hopen, if_neg (mt b.any_eq_true_iff.2 (Bool.eq_false_iff.1 hnone))]

/-! ### The display split -/

theorem flagBit_toNat (b : Bool) {k : Nat} (hk : k < 32) : (flagBit b k).toNat = if b = true then 2 ^ k else 0 := by
  cases b with
  | false => simp [flagBit]
  | true =>
    have hfits : 2 ^ k < 2 ^ 32 := Nat.pow_lt_pow_right (by decide) hk
    simpa [flagBit, Nat.shiftLeft_eq] using hfits

/-- R47: `NEG` stands above `DIGITS`, so the register's value is their sum. -/
theorem fracWord_toNat (f : Frac) : (fracWord f).toNat = f.digits.toNat + (if f.neg = true then 256 else 0) := by
  have hdigits : f.digits.toNat < 2 ^ 8 := f.digits.isLt
  have hword : (f.digits.setWidth 32).toNat = f.digits.toNat := BitVec.toNat_setWidth_of_le (by decide)
  rw [fracWord, BitVec.toNat_or, hword, flagBit_toNat _ (by decide)]
  cases f.neg with
  | false => simp
  | true => simpa [Nat.add_comm, Nat.or_comm] using (Nat.two_pow_add_eq_or_of_lt hdigits 1).symm

/-- The digits of R141 fit `DIGITS`: they are below the divisor. -/
theorem splitDefault_digits_toNat (v : Int) :
    (splitDefault v).2.digits.toNat = v.natAbs % (if 9 < (v.tdiv 100).natAbs then 100 else 10) := by
  refine (BitVec.toNat_ofNat ..).trans (Nat.mod_eq_of_lt ?_)
  simp only [quot, gt_iff_lt]
  split <;> omega

/-- Truncation keeps the sign: a positive integer part has a positive value, a negative one a negative value. -/
theorem sign_of_tdiv_hundred (v : Int) : (0 < v.tdiv 100 → 0 < v) ∧ (v.tdiv 100 < 0 → v < 0) := by
  have hnonneg : 0 ≤ v → 0 ≤ v.tdiv 100 := fun h => Int.tdiv_nonneg h (by decide)
  have hnonpos : 0 ≤ -v → 0 ≤ -v.tdiv 100 := fun h => Int.neg_tdiv v 100 ▸ Int.tdiv_nonneg h (by decide)
  omega

/-- Settles O39: the parts are those of `splitDefault`, and truncation makes the integer part's magnitude the quotient of the
value's, so that the digits are its remainder when the divisor is 100. -/
theorem splitRecomposesTheValue : Obligations.SplitRecomposesTheValue := by
  intro v
  have hneg : (splitDefault v).2.neg = true ↔ v < 0 := decide_eq_true_iff
  have hdigits := splitDefault_digits_toNat v
  have hquot : (v.tdiv 100).natAbs = v.natAbs / 100 := Int.natAbs_tdiv v 100
  obtain ⟨hpositive, hnegative⟩ := sign_of_tdiv_hundred v
  refine ⟨v.tdiv 100, (splitDefault v).2, rfl, rfl, hneg, hdigits, ?bits, ?big, ?small, hpositive, hnegative, hquot.symm⟩
  case bits => simp only [fracWord_toNat, hneg]
  case big =>
    intro h
    rw [if_pos h] at hdigits
    omega
  case small =>
    intro h
    rw [if_neg (by omega)] at hdigits
    omega

/-! ### What the results depend on -/

/-- R147: a successful `COMP_T` writes a function of `ADC_T`, the coefficients and the parameters. -/
theorem temp_of_compT_ok {s t : State} (h : exec .compT s = .next t) (hok : t.status.result = .ok) :
    t.temp = tempOut s.cfg.splitRule (compT s.cfg.hasH s.dig s.adcT).1 (compT s.cfg.hasH s.dig s.adcT).2 := by
  obtain ⟨-, rfl⟩ | ⟨-, -, rfl⟩ | ⟨-, -, rfl⟩ := execCompT_cases h
  · cases hok
  · cases hok
  · rfl

/-- R170: a successful `COMP_P` writes a function of `ADC_P`, `T_FINE`, the coefficients and the parameters. -/
theorem press_of_compP_ok {s t : State} (h : exec .compP s = .next t) (hok : t.status.result = .ok) :
    some t.press = (compP s.dig s.adcP s.temp.fine).map (pressOut s.cfg.pCenti) := by
  obtain ⟨-, rfl⟩ | ⟨-, -, rfl⟩ | ⟨-, -, -, rfl⟩ | ⟨-, -, -, -, rfl⟩ | ⟨-, -, -, p, hp, rfl⟩ := execCompP_cases h
  · cases hok
  · cases hok
  · cases hok
  · cases hok
  · rw [hp]
    rfl

/-- Settles O40: equal inputs give equal arguments to the functions that the two commands write. -/
theorem compensationDependsOnlyOnInputs : Obligations.CompensationDependsOnlyOnInputs := by
  intro s s' t t' hvariant hprecision hsplit hdig hok hok'
  refine ⟨fun hadc h h' => ?temperature, fun hadc hfine h h' => ?pressure⟩
  case temperature =>
    rw [temp_of_compT_ok h hok, temp_of_compT_ok h' hok', hvariant, hsplit, hdig, hadc]
  case pressure =>
    apply Option.some.inj
    rw [press_of_compP_ok h hok, press_of_compP_ok h' hok', hprecision, hdig, hadc, hfine]

end Sys2Proof.Machine
end

section
/-! Proofs of the statements of spec/43_pressure.md: `COMP_P` (R160-R165, R167) and what writes `DIVZ` (R169). -/

namespace Sys2Proof.Machine

/-! ### `COMP_P` -/

theorem BoundPair.any_eq_false_iff (b : BoundPair) : b.any = false ↔ ¬(b.low = true ∨ b.high = true) := by
  rw [← b.any_eq_true_iff, Bool.not_eq_true]

/-- R163: the denominator's guard of the exact formula is that of `compP`. -/
theorem pressure_of_compP_none {c : CoeffSet Word} {adc : BitVec 20} {tf : Word} (h : compP c adc tf = none) :
    Exact.pressure c adc.toNat (asS tf) = none := by
  rw [← compP_eq, h, Option.map_none]

/-- R161-R165: the exact formula gives the value of the word that `compP` gives. -/
theorem pressure_of_compP_some {c : CoeffSet Word} {adc : BitVec 20} {tf p : Word} (h : compP c adc tf = some p) :
    Exact.pressure c adc.toNat (asS tf) = some (p.toNat : Int) := by
  rw [← compP_eq, h, Option.map_some]

/-- Settles O36, by the five cases of the command: its flags are those of the bound predicate, and its guard and its registers
those of the exact formula. -/
theorem compPFollowsTheSpec : Obligations.CompPFollowsTheSpec := by
  refine ⟨rfl, ?_⟩
  intro s b s₁
  have hbound : (checkP s).bound = s₁.bound := by
    rw [checkP, checkPair_eq]
    rfl
  obtain ⟨t, h⟩ := exec_completes .compP s
  have hcases := execCompP_cases h
  rw [hbound] at hcases
  obtain ⟨hclosed, rfl⟩ | ⟨hopen, htv, rfl⟩ | ⟨hopen, htv, hany, rfl⟩ | ⟨hopen, htv, hnone, hguard, rfl⟩ |
    ⟨hopen, htv, hnone, p, hp, rfl⟩ := hcases
  · rw [h, if_pos hclosed]
  · rw [h, if_neg hopen, if_pos htv]
  · rw [h, if_neg hopen, if_neg (by simp [htv]), if_pos (b.any_eq_true_iff.1 hany)]
  · rw [h, if_neg hopen, if_neg (by simp [htv]), if_neg (b.any_eq_false_iff.1 hnone),
      pressure_of_compP_none hguard]
  · rw [h, if_neg hopen, if_neg (by simp [htv]), if_neg (b.any_eq_false_iff.1 hnone),
      pressure_of_compP_some hp, pressOut_eq]

/-! ### What writes `DIVZ` -/

/-- Every next state of the outcome has the `DIVZ` of `s`. -/
def KeepsDivz (s : State) (o : Out) : Prop := ∀ t : State, o = .next t → t.status.divz = s.status.divz

theorem KeepsDivz.finish {c : ResultCode} {s s' : State} (hkept : s'.status.divz = s.status.divz := by rfl) :
    KeepsDivz s (finish c s') := by
  intro t h
  rw [finish_eq_next] at h
  subst h
  exact hkept

theorem KeepsDivz.ite {s : State} {P : Prop} [Decidable P] {o o' : Out} (h : KeepsDivz s o) (h' : KeepsDivz s o') :
    KeepsDivz s (if P then o else o') := by
  split
  · exact h
  · exact h'

/-- R169: only reset and the commands with a pressure step write `DIVZ`. -/
theorem exec_keepsDivz {i : Instr} {s : State} (hreset : i ≠ .sreset) (hpress : ¬(i = .compP ∨ i = .measure)) :
    KeepsDivz s (exec i s) := by
  cases i with
  | nop | errClr | errSet => exact .finish
  | calLatch | avgClr => exact .ite .finish .finish
  | unpack => exact .ite .finish (.finish (by simp [writeAdc_eq]))
  | chkBounds | compT => exact .ite .finish (.ite .finish .finish)
  | chkBusy | sealevel | avgT | avgH => exact .ite .finish (.ite .finish (.ite .finish .finish))
  | compH => exact .ite .finish (.ite .finish (.ite .finish (.ite .finish .finish)))
  | sreset => contradiction
  | compP | measure => simp at hpress

/-- `DIVZ` after a command with a pressure step, by its result: 1 at a zero denominator, 0 past the guard, and kept by a failure
before the step (R169). -/
def DivzShowsTheGuard (s t : State) : Prop :=
  if t.status.result = .divByZero then t.status.divz = true
  else if t.status.result = .ok then t.status.divz = false
  else t.status.divz = s.status.divz

theorem compP_divz {s t : State} (h : exec .compP s = .next t) : DivzShowsTheGuard s t := by
  obtain ⟨-, rfl⟩ | ⟨-, -, rfl⟩ | ⟨-, -, -, rfl⟩ | ⟨-, -, -, -, rfl⟩ | ⟨-, -, -, p, -, rfl⟩ := execCompP_cases h <;>
    exact rfl

theorem measure_divz {s t : State} (h : exec .measure s = .next t) : DivzShowsTheGuard s t := by
  obtain ⟨-, rfl⟩ | ⟨-, -, -, rfl⟩ | ⟨-, -, -, rfl⟩ | ⟨-, -, -, -, rfl⟩ | ⟨-, -, -, p, -, rfl⟩ := execMeasure_cases h
  · exact rfl
  · exact rfl
  · have hkept : (acquired s).status.divz = s.status.divz := by rw [acquired_status]
    exact hkept
  · exact rfl
  · exact rfl

/-- Settles O55: the two commands with a pressure step by the cases of their meanings, every other command by what it keeps. -/
theorem divzWrittenOnlyAtThePressureStep : Obligations.DivzWrittenOnlyAtThePressureStep := by
  intro i s t hreset h
  by_cases hpress : i = .compP ∨ i = .measure
  case pos =>
    have hguard : DivzShowsTheGuard s t := by
      obtain rfl | rfl := hpress
      · exact compP_divz h
      · exact measure_divz h
    simp only [hpress, true_and]
    exact hguard
  case neg =>
    simpa only [hpress, false_and, if_false] using exec_keepsDivz hreset hpress t h

end Sys2Proof.Machine
end

section
/-! Proofs of the statements of spec/44_humidity.md: `COMP_H` (R180-R184). -/

namespace Sys2Proof.Machine

/-! ### `COMP_H` -/

/-- R180: in an engine with humidity the channel check sets the flags of the bound predicate. -/
theorem checkH_bound_of_hasH {s : State} (hpresent : s.cfg.hasH = true) :
    (checkH s).bound =
      { s.bound with h := Exact.pair s.cfg.boundPolicy s.adcH.toNat s.cfg.hMin.toNat s.cfg.hMax.toNat } := by
  rw [checkH, if_pos hpresent, checkPair_eq]
  rfl

/-- R184: the registers `COMP_H` writes hold the humidity of the formula over wrapped integers. -/
theorem humOut_compH (r : SplitRule) (c : CoeffSet Word) (adc : BitVec 16) (tf : Word) :
    humOut r (compH c adc tf).1 (compH c adc tf).2 =
      humOf r (Exact.humQ c adc.toNat (asS tf)) (Exact.humC (Exact.humQ c adc.toNat (asS tf))) := by
  rw [humOut_eq, compH_fst_eq, compH_snd_eq]

/-- Settles O37, by the five cases of the command: its flags are those of the bound predicate and its registers those of the
exact formula. -/
theorem compHFollowsTheSpec : Obligations.CompHFollowsTheSpec := by
  refine ⟨rfl, ?_⟩
  intro s b s₁ hq
  have hbound : s.cfg.hasH = true → (checkH s).bound = s₁.bound := checkH_bound_of_hasH
  obtain ⟨t, h⟩ := exec_completes .compH s
  obtain ⟨habsent, rfl⟩ | ⟨hpresent, hclosed, rfl⟩ | ⟨hpresent, hopen, htv, rfl⟩ | ⟨hpresent, hopen, htv, hany, rfl⟩ |
    ⟨hpresent, hopen, htv, hnone, rfl⟩ := execCompH_cases h
  · rw [h, if_pos habsent]
  · rw [h, if_neg (by simp [hpresent]), if_pos hclosed]
  · rw [h, if_neg (by simp [hpresent]), if_neg hopen, if_pos htv]
  · rw [hbound hpresent] at h hany
    rw [h, if_neg (by simp [hpresent]), if_neg hopen, if_neg (by simp [htv]), if_pos (b.any_eq_true_iff.1 hany)]
  · rw [hbound hpresent] at h hnone
    rw [h, if_neg (by simp [hpresent]), if_neg hopen, if_neg (by simp [htv]), if_neg (b.any_eq_false_iff.1 hnone),
      humOut_compH]

end Sys2Proof.Machine
end

section
/-! Proofs of the statements of spec/45_sealevel.md: `SEALEVEL` (R200-R206). -/

namespace Sys2Proof.Machine

/-! ### `SEALEVEL` -/

/-- Settles O41, by the four cases of the command: the word it writes is that of the engine's function over exact integers. -/
theorem sealevelFollowsTheSpec : Obligations.SealevelFollowsTheSpec := by
  refine ⟨rfl, fun s => ?_⟩
  obtain ⟨t, h⟩ := exec_completes .sealevel s
  obtain ⟨habsent, rfl⟩ | ⟨hpresent, hclosed, rfl⟩ | ⟨hpresent, hopen, hinvalid, rfl⟩ |
    ⟨hpresent, hopen, htv, hpv, rfl⟩ := execSealevel_cases h
  · rw [h, if_pos habsent]
  · rw [h, if_neg (by simp [hpresent]), if_pos hclosed]
  · rw [h, if_neg (by simp [hpresent]), if_neg hopen, if_pos hinvalid]
  · rw [h, if_neg (by simp [hpresent]), if_neg hopen, if_neg (by simp [htv, hpv]), sealevelFn_eq]

end Sys2Proof.Machine
end

section
/-! Proofs of the statements of spec/46_averaging.md: the push and its mean (R221, R222), `AVG_T` (R224) and `AVG_CLR` (R226). -/

namespace Sys2Proof.Machine

/-! ### The mean -/

/-- R222: `n` words sum to between `n` times the least and `n` times the greatest value of a word. -/
theorem sum_asS_range (xs : List Word) :
    xs.length * -(2 ^ 31) ≤ (xs.map asS).sum ∧ (xs.map asS).sum ≤ xs.length * (2 ^ 31 - 1) := by
  have hlo := List.card_nsmul_le_sum (xs.map asS) (-(2 ^ 31)) (List.forall_mem_map.2 fun w _ => (asS_range w).1)
  have hhi := List.sum_le_card_nsmul (xs.map asS) (2 ^ 31 - 1)
    (List.forall_mem_map.2 fun w _ => Int.le_sub_one_of_lt (asS_range w).2)
  rw [List.length_map, nsmul_eq_mul] at hlo hhi
  exact ⟨hlo, hhi⟩

/-- R222: the mean of words lies between the least and the greatest value of a word; that of no words is 0. -/
theorem meanOf_range (xs : List Word) : -(2 ^ 31) ≤ meanOf xs ∧ meanOf xs < 2 ^ 31 := by
  cases xs with
  | nil => decide
  | cons x xs =>
    have hpos : (0 : Int) < (x :: xs).length := Int.natCast_pos.2 (Nat.succ_pos _)
    obtain ⟨hlo, hhi⟩ := sum_asS_range (x :: xs)
    have hlo := Int.tdiv_le_tdiv hpos hlo
    have hhi := Int.tdiv_le_tdiv hpos hhi
    rw [Int.mul_tdiv_cancel_left _ hpos.ne'] at hlo hhi
    exact ⟨hlo, Int.lt_of_le_sub_one hhi⟩

/-- R222: the mean is exact in its register. -/
theorem asS_asU_meanOf (xs : List Word) : asS (asU (meanOf xs)) = meanOf xs :=
  (asS_asU _).trans (wrapS_of_range (meanOf_range xs))

/-- When the count is within the window, the populated entries are as many as it says, and R222 divides by their number. -/
theorem windowMean_eq_meanOf {c : AvgChan} (hcount : c.cnt.toNat ≤ c.win.length) : windowMean c = meanOf c.samples := by
  rw [windowMean, meanOf, AvgChan.samples, List.length_take_of_le hcount, quot]

/-! ### The window -/

section
variable {n : Nat} (x : Word) {c : AvgChan}

theorem appendSample_of_filling (hfilling : c.cnt.toNat < n) :
    appendSample n x c = { c with win := c.win.set c.cnt.toNat x, cnt := c.cnt + 1 } := if_pos hfilling

theorem appendSample_of_full (hfull : ¬c.cnt.toNat < n) :
    appendSample n x c = { c with win := c.win.tail ++ [x] } := by
  rw [appendSample, if_neg hfull, List.drop_one]

/-- R221: appending overwrites an entry and shifting drops one for the one it adds, so the window keeps its length. -/
theorem appendSample_win_length (hpos : 1 ≤ n) (hlength : c.win.length = n) : (appendSample n x c).win.length = n := by
  by_cases h : c.cnt.toNat < n
  case pos => rw [appendSample_of_filling x h, List.length_set, hlength]
  case neg =>
    rw [appendSample_of_full x h, List.length_append, List.length_tail, List.length_singleton]
    omega

/-- R221: the count goes up to the window's length and stays there; within a legal length it never wraps. -/
theorem appendSample_cnt_toNat (hmax : n ≤ 64) (hcount : c.cnt.toNat ≤ n) :
    (appendSample n x c).cnt.toNat = min (c.cnt.toNat + 1) n := by
  by_cases h : c.cnt.toNat < n
  case pos =>
    have hfits : c.cnt.toNat + 1 < 2 ^ 32 := by omega
    rw [appendSample_of_filling x h, BitVec.toNat_add_of_lt (y := 1) hfits]
    exact (Nat.min_eq_left h).symm
  case neg =>
    have hfull : c.cnt.toNat = n := by omega
    rw [appendSample_of_full x h, hfull, Nat.min_eq_right n.le_succ]

end

/-! ### The push -/

section
variable (p : Params) (x : Word) (c : AvgChan)

@[simp] theorem pushSample_win : (pushSample p x c).win = (appendSample p.avgN x c).win := rfl
@[simp] theorem pushSample_cnt : (pushSample p x c).cnt = (appendSample p.avgN x c).cnt := rfl
@[simp] theorem pushSample_mean : (pushSample p x c).mean = asU (windowMean (appendSample p.avgN x c)) := rfl
@[simp] theorem pushSample_int :
    (pushSample p x c).int = asU (split p.splitRule (windowMean (appendSample p.avgN x c))).1 := rfl
@[simp] theorem pushSample_frac :
    (pushSample p x c).frac = (split p.splitRule (windowMean (appendSample p.avgN x c))).2 := rfl

end

/-- R221, R222: a push needs of its channel only a window of `AVG_N` entries and a count within it. -/
theorem pushed_pushSample {p : Params} (x : Word) {c : AvgChan} (hlegal : p.legal = true) (hlength : c.win.length = p.avgN)
    (hcount : c.cnt.toNat ≤ p.avgN) : Pushed p x c (pushSample p x c) := by
  obtain ⟨-, hpos, hmax, -⟩ := (params_legal_iff p).1 hlegal
  have hcnt := appendSample_cnt_toNat x hmax hcount
  have hwin := appendSample_win_length x hpos hlength
  have hmean : windowMean (appendSample p.avgN x c) = meanOf (pushSample p x c).samples :=
    windowMean_eq_meanOf (by omega)
  refine ⟨fun h => ?filling, fun h => ?full, ?mean, ?int, ?frac⟩
  case filling =>
    rw [pushSample_win, pushSample_cnt, hcnt, Nat.min_eq_left h, appendSample_of_filling x h]
    exact ⟨rfl, rfl⟩
  case full =>
    rw [pushSample_win, pushSample_cnt, appendSample_of_full x h]
    exact ⟨rfl, rfl⟩
  case mean => rw [pushSample_mean, hmean, asS_asU_meanOf]
  case int => rw [pushSample_int, hmean]
  case frac => rw [pushSample_frac, hmean]

/-- Settles O43: the invariant gives an enabled channel a window of `AVG_N` entries and a count within it. -/
theorem pushKeepsTheLastSamplesAndTheirMean : Obligations.PushKeepsTheLastSamplesAndTheirMean := by
  intro p x c hlegal hinv
  have hlength : c.win.length = p.avgN := hinv.length
  exact pushed_pushSample x hlegal hlength (hlength ▸ hinv.count)

/-! ### `AVG_T` -/

/-- Settles O44, by the four cases of the command: the word it pushes is `T_C100` as it stands. -/
theorem avgTFollowsTheSpec : Obligations.AvgTFollowsTheSpec := by
  refine ⟨rfl, fun s => ?_⟩
  obtain ⟨t, h⟩ := exec_completes .avgT s
  obtain ⟨habsent, rfl⟩ | ⟨hpresent, hclosed, rfl⟩ | ⟨hpresent, hopen, hinvalid, rfl⟩ | ⟨hpresent, hopen, htv, rfl⟩ :=
    execAvgT_cases h
  · rw [h, if_pos habsent]
  · rw [h, if_neg (by simp [hpresent]), if_pos hclosed]
  · rw [h, if_neg (by simp [hpresent]), if_neg hopen, if_pos hinvalid]
  · rw [h, if_neg (by simp [hpresent]), if_neg hopen, if_neg (by simp [htv])]

/-! ### `AVG_CLR` -/

/-- R226: an emptied channel of the invariant's length is the empty channel of its engine. -/
theorem clearChan_of_inv {p : Params} {en : Bool} {c : AvgChan} (hinv : c.Inv p en) :
    clearChan c = AvgChan.empty (windowLength en p.avgN) := congrArg AvgChan.empty hinv.length

/-- Settles O46, by the two cases of the command: the invariant fixes the lengths of the windows it empties. -/
theorem avgClrFollowsTheSpec : Obligations.AvgClrFollowsTheSpec := by
  refine ⟨rfl, fun s hinv => ?_⟩
  obtain ⟨t, h⟩ := exec_completes .avgClr s
  obtain ⟨hnoT, hnoH, rfl⟩ | ⟨hpresent, rfl⟩ := execAvgClr_cases h
  · rw [h, if_pos ⟨hnoT, hnoH⟩]
  · rw [h, if_neg (by simpa [or_iff_not_imp_left] using hpresent), clearChan_of_inv hinv.windowT,
      clearChan_of_inv hinv.windowH]
    rfl

end Sys2Proof.Machine
end

section
/-! Proofs of the statements of spec/30_encoding.md on the command words (R81, R82) and of spec/60_exceptions.md on completion
(R281). -/

namespace Sys2Proof.Machine

/-! ### Command words -/

/-- Settles O8: the word of a command decodes to it in the engines that have its feature. -/
theorem decodeOfEncode : Obligations.DecodeOfEncode := by
  intro p i h
  rw [decode_encode, if_pos h]

/-- R84: a word that decodes passed the four checks. -/
theorem decode_eq_ok {p : Params} {w : Word} {i : Instr} (h : decode p w = .ok i) :
    rsvField w = 0 ∧ opcodeMap (opcField w) ((argField w).extractLsb' 0 2) = some i ∧ i.wellFormed p = true ∧
      argumentOk i (argField w) = true := by
  have hrsv : rsvField w = 0 := by
    by_contra hne
    rw [decode_of_rsvField_ne_zero hne] at h
    cases h
  cases hmap : opcodeMap (opcField w) ((argField w).extractLsb' 0 2) with
  | none =>
    rw [decode_of_opcodeMap_none hrsv hmap] at h
    cases h
  | some j =>
    rw [decode_of_opcodeMap_some hrsv hmap] at h
    split at h
    · split at h <;> cases h
      exact ⟨hrsv, rfl, ‹_›, ‹_›⟩
    · cases h

/-- R82, R83: the opcode map takes the operand of `ERR_SET` from the argument. -/
theorem mask_of_opcodeMap {opc : BitVec 8} {m m' : BitVec 2} (h : opcodeMap opc m = some (.errSet m')) : m' = m := by
  rw [opcodeMap] at h
  split at h <;> cases h
  rfl

/-- R83: an argument that passes check 4 is the one the command's word has. -/
theorem argument_of_decoded {opc arg : BitVec 8} {i : Instr} (hmap : opcodeMap opc (arg.extractLsb' 0 2) = some i)
    (harg : argumentOk i arg = true) : argument i = arg := by
  cases i with
  | errSet m =>
    obtain rfl := mask_of_opcodeMap hmap
    clear hmap
    revert arg
    decide
  | _ => exact (eq_of_beq harg).symm

/-- R81: a word is its three fields. -/
theorem fields_append (w : Word) : rsvField w ++ argField w ++ opcField w = w := by
  have harg := (argField w).isLt
  apply BitVec.eq_of_toNat_eq
  rw [BitVec.toNat_append, BitVec.toNat_append, shiftLeft_or_eq_add (opcField w).isLt, shiftLeft_or_eq_add harg,
    rsvField_toNat, argField_toNat, opcField_toNat]
  omega

/-- Settles O9: the fields of a word that decodes are those of its command. -/
theorem encodeOfDecode : Obligations.EncodeOfDecode := by
  intro p w i h
  obtain ⟨hrsv, hmap, hpresent, harg⟩ := decode_eq_ok h
  refine ⟨?_, hpresent⟩
  rw [encode, argument_of_decoded hmap harg, opcode_of_opcodeMap hmap, ← hrsv]
  exact fields_append w

/-- Settles O11: the decoder computes on each word. -/
theorem commandWordsDecode : Obligations.CommandWordsDecode :=
  ⟨rfl, rfl, rfl, rfl, rfl, rfl, rfl, rfl, rfl⟩

/-! ### A step on a command word -/

/-- Settles O12: the oldest access is a write to `CMD`, which runs what its word decodes to. -/
theorem stepRunsTheDecodedCommand : Obligations.StepRunsTheDecodedCommand := by
  intro s w rest hpending s'
  have hstep : step s = runCommand w s' := (step_access hpending).trans (memWrite_cmd s' w)
  refine ⟨fun i h => ?_, fun e h => ?_⟩
  · rw [hstep, runCommand_of_decode_ok (s := s') h]
  · rw [hstep, runCommand_of_decode_error (s := s') h]

/-! ### Completion -/

/-- Settles O27: a command is a tree of checks with a completion at every leaf. -/
theorem everyCommandCompletes : Obligations.EveryCommandCompletes := exec_completes

end Sys2Proof.Machine
end

section
/-! Proofs of the statements of spec/47_control.md section 1: `NOP` (R240), `SRESET` (R241), `ERR_CLR` (R242) and `ERR_SET`
(R243). -/

namespace Sys2Proof.Machine

/-- Settles O21: the meaning is the report. -/
theorem nopOnlyReports : Obligations.NopOnlyReports := ⟨rfl, fun s => finish_beginCmd .ok s⟩

/-- Settles O2: after the reset every register reads as after power-on, and the reset's `RESULT` is `OK` already. -/
theorem sresetEqualsPowerOn : Obligations.SresetEqualsPowerOn :=
  ⟨rfl, fun s => ⟨applyReset s, rfl, applyReset_cfg s, rfl, readReg_applyReset s⟩⟩

/-- Settles O22: with the latch cleared only `CAL_VALID` holds the gate. -/
theorem errClrClearsTheLatch : Obligations.ErrClrClearsTheLatch := by
  refine ⟨rfl, fun s => ⟨State.reported { s with err := 0 } .ok, rfl, rfl, ?_⟩⟩
  exact or_iff_right (not_not.2 rfl)

theorem encode_errSet_toNat (m : BitVec 2) : (encode (.errSet m)).toNat = 3 + 256 * m.toNat := by
  revert m
  decide

/-- Settles O23: the word by the values of the mask, the latch bit by bit, and a large argument by check 4 of R84. -/
theorem errSetOrsTheMask : Obligations.ErrSetOrsTheMask := by
  refine ⟨encode_errSet_toNat, fun s m => ⟨_, rfl, rfl, fun k => BitVec.getLsbD_or⟩, fun p arg hlo hhi => ?badArgument⟩
  case badArgument =>
    obtain ⟨-, -, -, hbad, -⟩ := legalityInOrder p (BitVec.ofNat 32 (3 + 256 * arg))
    have hword : (BitVec.ofNat 32 (3 + 256 * arg)).toNat = 3 + 256 * arg := by
      rw [BitVec.toNat_ofNat]
      omega
    have hopc : (3 + 256 * arg) % 256 = 3 := by omega
    have harg : (3 + 256 * arg) / 256 % 256 = arg := by omega
    rw [hword, hopc, harg] at hbad
    exact hbad (by omega) (by decide) (by simp) (by omega)

end Sys2Proof.Machine
end

section
/-! Proofs of the statements of spec/70_reset_and_hazards.md: reset (R301) and the invariant at power-on. -/

namespace Sys2Proof.Machine

@[simp] theorem flagBit_false (k : Nat) : flagBit false k = 0 := by simp [flagBit]

@[simp] theorem fracWord_zero : fracWord ⟨0, false⟩ = 0 := by simp [fracWord]

theorem CoeffSet.const_nth {α : Type} (x : α) (k : Fin 18) : (CoeffSet.const x).nth k = x := by
  rw [CoeffSet.nth]
  split <;> rfl

theorem AvgChan.empty_win_getD (n k : Nat) : (AvgChan.empty n).win.getD k 0 = 0 := by
  by_cases h : k < n <;> simp [AvgChan.empty, h]

/-- R301: power-on leaves every register 0 but the two that show the parameters. -/
theorem readReg_powerOn (p : Params) (r : Reg) :
    readReg (State.powerOn p) r =
      match r with
      | .features => featuresWord p
      | .siteAlt => asU p.altM
      | _ => 0 := by
  cases r with
  | calraw k => exact Vector.getElem_replicate k.isLt
  | dig k => exact CoeffSet.const_nth 0 k
  | winT i | winH i => exact AvgChan.empty_win_getD _ _
  | status => simp [readReg, State.powerOn, statusWord, ResultCode.code]
  | bound => simp [readReg, State.powerOn, boundWord]
  | tFrac | hFrac | avgTFrac | avgHFrac => exact fracWord_zero
  | _ => rfl

/-- Settles O1: after a reset the registers read as after power-on, and `CAL_VALID` is 0. -/
theorem powerOnRegistersReadAsReset : Obligations.PowerOnRegistersReadAsReset := by
  rintro p r s t - rfl (rfl | rfl)
  · exact ⟨.inr rfl, readReg_powerOn s.cfg r⟩
  · exact ⟨.inr rfl, (readReg_applyReset s r).trans (readReg_powerOn s.cfg r)⟩

end Sys2Proof.Machine
end

section
/-! Proofs of the statements of spec/44_humidity.md: the range of the humidity (R182, R183), and of spec/46_averaging.md: `AVG_H`
(R225). -/

namespace Sys2Proof.Machine

/-- R182, R183: the clamps. -/
theorem humQ_range (c : CoeffSet Word) (adc tf : Int) : 0 ≤ Exact.humQ c adc tf ∧ Exact.humQ c adc tf ≤ 102400 := by
  rw [Exact.humQ, Exact.shr, Exact.clamp]
  omega

/-- R183: the rescale of a humidity within range. -/
theorem humC_range {hq : Int} (h : 0 ≤ hq ∧ hq ≤ 102400) : 0 ≤ Exact.humC hq ∧ Exact.humC hq ≤ 10000 := by
  rw [Exact.humC, Exact.shr]
  omega

/-- R141: a value that is not negative has no sign. -/
theorem splitDefault_neg_of_nonneg {v : Int} (h : 0 ≤ v) : (splitDefault v).2.neg = false :=
  decide_eq_false (Int.not_lt.2 h)

/-- Settles O38: the ranges of the exact formula, and a value that is not negative has no sign. -/
theorem humidityStaysInRange : Obligations.HumidityStaysInRange := by
  intro c adc tf
  have hq := humQ_range c adc.toNat (asS tf)
  have hc := humC_range hq
  rw [compH_fst_eq, compH_snd_eq]
  exact ⟨hq.1, hq.2, hc.1, hc.2, splitDefault_neg_of_nonneg hc.1⟩

/-- Settles O45, by the four cases of the command: the word it pushes is `H_C100` as it stands. -/
theorem avgHFollowsTheSpec : Obligations.AvgHFollowsTheSpec := by
  refine ⟨rfl, fun s => ?_⟩
  obtain ⟨t, h⟩ := exec_completes .avgH s
  obtain ⟨habsent, rfl⟩ | ⟨hpresent, hclosed, rfl⟩ | ⟨hpresent, hopen, hinvalid, rfl⟩ | ⟨hpresent, hopen, hhv, rfl⟩ :=
    execAvgH_cases h
  · rw [h, if_pos habsent]
  · rw [h, if_neg (by simp [hpresent]), if_pos hclosed]
  · rw [h, if_neg (by simp [hpresent]), if_neg hopen, if_pos hinvalid]
  · rw [h, if_neg (by simp [hpresent]), if_neg hopen, if_neg (by simp [hhv])]

end Sys2Proof.Machine
end

section
/-! Proofs of the statements of spec/47_control.md section 2: `MEASURE` (R244-R246) and what a failing one leaves written. -/

namespace Sys2Proof.Machine

/-! ### The acquired state -/

/-- R244: until its bound check ends `MEASURE` has written the raw counts and the flags that the bound predicate gives them. -/
theorem acquired_eq (s : State) :
    acquired s =
      { s with
        adcP := (acquired s).adcP
        adcT := (acquired s).adcT
        adcH := (acquired s).adcH
        bound :=
          { t := Exact.pair s.cfg.boundPolicy (acquired s).adcT.toNat s.cfg.tMin.toNat s.cfg.tMax.toNat
            p := Exact.pair s.cfg.boundPolicy (acquired s).adcP.toNat s.cfg.pMin.toNat s.cfg.pMax.toNat
            h :=
              if s.cfg.hasH = true then
                Exact.pair s.cfg.boundPolicy (acquired s).adcH.toNat s.cfg.hMin.toNat s.cfg.hMax.toNat
              else ⟨false, false⟩ } } := by
  simp only [acquired, writeAdc_eq, checkAll_eq]
  rfl

/-- R124: the raw counts as numbers. -/
theorem acquired_counts (s : State) :
    (acquired s).adcP.toNat = Exact.raw20 s.raw0 s.raw1 0 ∧ (acquired s).adcT.toNat = Exact.raw20 s.raw0 s.raw1 3 ∧
      if s.cfg.hasH = true then (acquired s).adcH.toNat = Exact.raw16 s.raw0 s.raw1 else (acquired s).adcH = s.adcH := by
  rw [acquired_adcP, acquired_adcT, acquired_adcH]
  refine ⟨burstP_toNat .., burstT_toNat .., ?_⟩
  split
  · exact burstH_toNat ..
  · rfl

theorem eq_ofNat_of_toNat {n k : Nat} {x : BitVec n} (h : x.toNat = k) : x = BitVec.ofNat n k := by
  rw [← h, BitVec.ofNat_toNat, BitVec.setWidth_eq]

/-! ### The outcomes -/

/-- R244, R161: the pressure step reads the temperature of the same cycle. -/
theorem measure_pressure_none {c : CoeffSet Word} {adcP adcT : BitVec 20} {hasH : Bool}
    (h : compP c adcP (compT hasH c adcT).1 = none) :
    Exact.pressure c adcP.toNat (Exact.tFine c adcT.toNat) = none := by
  rw [← compT_fst_eq hasH, pressure_of_compP_none h]

theorem measure_pressure_some {c : CoeffSet Word} {adcP adcT : BitVec 20} {hasH : Bool} {p : Word}
    (h : compP c adcP (compT hasH c adcT).1 = some p) :
    Exact.pressure c adcP.toNat (Exact.tFine c adcT.toNat) = some (p.toNat : Int) := by
  rw [← compT_fst_eq hasH, pressure_of_compP_some h]

theorem compT_snd_eq_asU (hasH : Bool) (c : CoeffSet Word) (adc : BitVec 20) :
    (compT hasH c adc).2 = asU (Exact.tC100 hasH (Exact.tFine c adc.toNat)) :=
  (asU_of_asS (compT_snd_eq hasH c adc)).symm

/-- R29, R246: the two values of `MODE` that are forced mode. -/
theorem forcedMode_eq (m : BitVec 2) : forcedMode m = decide (m = 0b01#2 ∨ m = 0b10#2) := by
  revert m
  decide

/-- Settles O48, by the five cases of the command: the counts and the flags are those of the burst, and the registers hold the
words of the exact formulas. -/
theorem measureFollowsTheSpec : Obligations.MeasureFollowsTheSpec := by
  refine ⟨rfl, ?_⟩
  intro s c adcP adcT adcH b s₁ tf tc hq
  have hadcP : (acquired s).adcP = adcP := (acquired_adcP s).trans (eq_ofNat_of_toNat (burstP_toNat ..))
  have hadcT : (acquired s).adcT = adcT := (acquired_adcT s).trans (eq_ofNat_of_toNat (burstT_toNat ..))
  have hadcH : (acquired s).adcH = adcH := by
    rw [acquired_adcH, eq_ofNat_of_toNat (burstH_toNat s.raw0 s.raw1)]
  have hacquired : acquired s = s₁ := by rw [acquired_eq, hadcP, hadcT, hadcH]
  obtain ⟨t, h⟩ := exec_completes .measure s
  have hcases := execMeasure_cases h
  simp only [hacquired, cycleResult, tempOut_compT, humOut_compH] at hcases
  obtain ⟨hclosed, rfl⟩ | ⟨hopen, hcheck, hbusy, rfl⟩ | ⟨hopen, hready, hany, rfl⟩ |
    ⟨hopen, hready, hnone, hp, rfl⟩ | ⟨hopen, hready, hnone, p, hp, rfl⟩ := hcases
  · rw [h, if_pos hclosed]
  · rw [h, if_neg hopen, if_pos ⟨hcheck, (sensorBusy_iff _).1 hbusy⟩]
  all_goals
    simp only [← sensorBusy_iff]
    have hready : ¬(c.busyCheck = true ∧ sensorBusy s.sensorStatus = true) := by
      rw [← Bool.and_eq_true, hready]
      exact Bool.false_ne_true
  · rw [h, if_neg hopen, if_neg hready, if_pos (mt (boundWord_eq_zero b).1 (by simpa using hany))]
  · rw [h, if_neg hopen, if_neg hready, if_neg (not_not.2 ((boundWord_eq_zero b).2 hnone)), measure_pressure_none hp]
  · rw [h, if_neg hopen, if_neg hready, if_neg (not_not.2 ((boundWord_eq_zero b).2 hnone)), measure_pressure_some hp,
      pressOut_eq, sealevelFn_eq, compT_snd_eq, compH_snd_eq, compT_fst_eq, compT_snd_eq_asU, forcedMode_eq]
    simp only [asU_toNat]
    rfl

/-- Settles O49, by the four failing cases of the command: the first two only report, the others leave the acquired state. -/
theorem failingMeasureLeaves : Obligations.FailingMeasureLeaves := by
  intro s t h hfailed
  obtain ⟨-, rfl⟩ | ⟨-, -, -, rfl⟩ | ⟨-, -, hany, rfl⟩ | ⟨-, -, hnone, -, rfl⟩ | ⟨-, -, -, p, -, rfl⟩ :=
    execMeasure_cases h
  · exact ⟨rfl, rfl, rfl, rfl, rfl, rfl, rfl, rfl⟩
  · exact ⟨rfl, rfl, rfl, rfl, rfl, rfl, rfl, rfl⟩
  · have hflags (f : Status → Bool) : f (acquired s).status = f s.status := by rw [acquired_status]
    have hbound : boundWord (acquired s).bound ≠ 0 := mt (boundWord_eq_zero _).1 (by simp [hany])
    exact ⟨acquired_outputs s, hflags Status.tv, hflags Status.pv, hflags Status.hv, acquired_dig s, acquired_err s, rfl,
      acquired_counts s, hbound, hflags Status.divz, congrArg (State.reported · .outOfRange) (acquired_eq s)⟩
  · exact ⟨acquired_outputs s, rfl, rfl, rfl, acquired_dig s, acquired_err s, rfl, acquired_counts s,
      (boundWord_eq_zero _).2 hnone, rfl,
      congrArg (fun a : State => State.reported { a with status := { s.status with divz := true } } .divByZero)
        (acquired_eq s)⟩
  · exact absurd rfl hfailed

end Sys2Proof.Machine
end

section
/-! Proofs of the statements of spec/47_control.md on `REARM` (R246), of spec/60_exceptions.md on the result codes (R271), of
spec/10_state.md on the writers of each register (R22), and of the model's own choices about its input and several engines. -/

namespace Sys2Proof.Machine

/-! ### `REARM` -/

/-- Every next state of the outcome meets `Q`. -/
def Ensures (Q : State → Prop) (o : Out) : Prop := ∀ t : State, o = .next t → Q t

theorem Ensures.finish {Q : State → Prop} {c : ResultCode} {s : State}
    (h : Q (s.setStatus { s.status with result := c })) : Ensures Q (finish c s) := by
  intro t ht
  rw [finish_eq_next] at ht
  exact ht ▸ h

theorem Ensures.ite {Q : State → Prop} {P : Prop} [Decidable P] {o o' : Out} (h : Ensures Q o) (h' : Ensures Q o') :
    Ensures Q (if P then o else o') := by
  split
  · exact h
  · exact h'

/-- R88, R246: every command but `MEASURE` clears `REARM` first and leaves it. -/
theorem exec_clearsRearm {i : Instr} (s : State) (h : i ≠ .measure) : Ensures (·.status.rearm = false) (exec i s) := by
  cases i with
  | nop | sreset | errClr | errSet => exact .finish rfl
  | calLatch | avgClr => exact .ite (.finish rfl) (.finish rfl)
  | unpack => exact .ite (.finish rfl) (.finish (by simp [writeAdc_eq]))
  | chkBounds | compT => exact .ite (.finish rfl) (.ite (.finish rfl) (.finish rfl))
  | chkBusy | sealevel | avgT | avgH =>
    exact .ite (.finish rfl) (.ite (.finish rfl) (.ite (.finish rfl) (.finish rfl)))
  | compH => exact .ite (.finish rfl) (.ite (.finish rfl) (.ite (.finish rfl) (.ite (.finish rfl) (.finish rfl))))
  | compP =>
    refine .ite (.finish rfl) (.ite (.finish rfl) (.ite (.finish rfl) ?_))
    split
    · exact .finish rfl
    · exact .finish rfl
  | measure => contradiction

/-- R246: a `MEASURE` that fails clears `REARM`, and one that succeeds shows the mode there. -/
theorem measure_rearm {s t : State} (h : exec .measure s = .next t) :
    (t.status.result ≠ .ok ∧ t.status.rearm = false) ∨ (t.status.result = .ok ∧ t.status.rearm = forcedMode s.mode) := by
  obtain ⟨-, rfl⟩ | ⟨-, -, -, rfl⟩ | ⟨-, -, -, rfl⟩ | ⟨-, -, -, -, rfl⟩ | ⟨-, -, -, p, -, rfl⟩ := execMeasure_cases h
  · exact .inl ⟨nofun, rfl⟩
  · exact .inl ⟨nofun, rfl⟩
  · exact .inl ⟨nofun, rfl⟩
  · exact .inl ⟨nofun, rfl⟩
  · exact .inr ⟨rfl, rfl⟩

/-- Settles O51: only `MEASURE` leaves `REARM` other than 0, and only when it succeeds. -/
theorem rearmOnlyAfterForcedMeasure : Obligations.RearmOnlyAfterForcedMeasure := by
  intro i s t h
  by_cases hi : i = .measure
  case neg => simp [exec_clearsRearm s hi t h, hi]
  case pos =>
    subst hi
    obtain ⟨hfailed, hrearm⟩ | ⟨hok, hrearm⟩ := measure_rearm h
    · simp [hfailed, hrearm]
    · simp [hok, hrearm, forcedMode_eq]

/-! ### Result codes -/

/-- Settles O54, by the cases of each command's meaning. -/
theorem resultCodesRaisedBy : Obligations.ResultCodesRaisedBy := by
  intro i s t h
  cases i with
  | nop | sreset | errClr | errSet m =>
    cases h
    trivial
  | calLatch =>
    obtain ⟨-, rfl⟩ | ⟨-, rfl⟩ := execCalLatch_cases h
    · exact rfl
    · trivial
  | chkBusy =>
    obtain ⟨habsent, rfl⟩ | ⟨-, -, rfl⟩ | ⟨hpresent, -, -, rfl⟩ | ⟨-, -, -, rfl⟩ := execChkBusy_cases h
    · exact habsent
    · exact rfl
    · exact ⟨hpresent, .inl rfl⟩
    · trivial
  | unpack =>
    obtain ⟨-, rfl⟩ | ⟨-, rfl⟩ := execUnpack_cases h
    · exact rfl
    · trivial
  | chkBounds =>
    obtain ⟨-, rfl⟩ | ⟨-, -, rfl⟩ | ⟨-, -, rfl⟩ := execChkBounds_cases h
    · exact rfl
    · exact .inl rfl
    · trivial
  | compT =>
    obtain ⟨-, rfl⟩ | ⟨-, -, rfl⟩ | ⟨-, -, rfl⟩ := execCompT_cases h
    · exact rfl
    · exact .inr (.inl rfl)
    · trivial
  | compP =>
    obtain ⟨-, rfl⟩ | ⟨-, -, rfl⟩ | ⟨-, -, -, rfl⟩ | ⟨-, -, -, -, rfl⟩ | ⟨-, -, -, p, -, rfl⟩ := execCompP_cases h
    · exact rfl
    · exact .inl rfl
    · exact .inr (.inr (.inl rfl))
    · exact .inl rfl
    · trivial
  | compH =>
    obtain ⟨habsent, rfl⟩ | ⟨-, -, rfl⟩ | ⟨-, -, -, rfl⟩ | ⟨-, -, -, -, rfl⟩ | ⟨-, -, -, -, rfl⟩ := execCompH_cases h
    · exact habsent
    · exact rfl
    · exact .inr (.inl rfl)
    · exact .inr (.inr (.inr (.inl rfl)))
    · trivial
  | sealevel =>
    obtain ⟨habsent, rfl⟩ | ⟨-, -, rfl⟩ | ⟨-, -, -, rfl⟩ | ⟨-, -, -, -, rfl⟩ := execSealevel_cases h
    · exact habsent
    · exact rfl
    · exact .inr (.inr (.inl rfl))
    · trivial
  | avgT =>
    obtain ⟨habsent, rfl⟩ | ⟨-, -, rfl⟩ | ⟨-, -, -, rfl⟩ | ⟨-, -, -, rfl⟩ := execAvgT_cases h
    · exact habsent
    · exact rfl
    · exact .inr (.inr (.inr (.inl rfl)))
    · trivial
  | avgH =>
    obtain ⟨habsent, rfl⟩ | ⟨-, -, rfl⟩ | ⟨-, -, -, rfl⟩ | ⟨-, -, -, rfl⟩ := execAvgH_cases h
    · exact habsent
    · exact rfl
    · exact .inr (.inr (.inr (.inr rfl)))
    · trivial
  | avgClr =>
    obtain ⟨hnoT, hnoH, rfl⟩ | ⟨-, rfl⟩ := execAvgClr_cases h
    · exact Bool.or_eq_false_iff.2 ⟨hnoT, hnoH⟩
    · trivial
  | measure =>
    obtain ⟨-, rfl⟩ | ⟨-, hpresent, -, rfl⟩ | ⟨-, -, -, rfl⟩ | ⟨-, -, -, -, rfl⟩ | ⟨-, -, -, p, -, rfl⟩ :=
      execMeasure_cases h
    · exact rfl
    · exact ⟨hpresent, .inr rfl⟩
    · exact .inr (.inr (.inr (.inr rfl)))
    · exact .inr rfl
    · trivial

/-! ### The writers of each register -/

/-- Settles O53, by the cases of each command's meaning: the fields that its next state does not name are those of `s`. -/
theorem onlyTheNamedCommandsWrite : Obligations.OnlyTheNamedCommandsWrite := by
  intro i s t hreset h
  cases i with
  | sreset => contradiction
  | nop | errClr | errSet m =>
    cases h
    simp [beginCmd, State.setStatus, State.setErr]
  | calLatch => obtain ⟨-, rfl⟩ | ⟨-, rfl⟩ := execCalLatch_cases h <;> simp [State.reported]
  | chkBusy =>
    obtain ⟨-, rfl⟩ | ⟨-, -, rfl⟩ | ⟨-, -, -, rfl⟩ | ⟨-, -, -, rfl⟩ := execChkBusy_cases h <;> simp [State.reported]
  | unpack => obtain ⟨-, rfl⟩ | ⟨-, rfl⟩ := execUnpack_cases h <;> simp [State.reported]
  | chkBounds => obtain ⟨-, rfl⟩ | ⟨-, -, rfl⟩ | ⟨-, -, rfl⟩ := execChkBounds_cases h <;> simp [State.reported]
  | compT => obtain ⟨-, rfl⟩ | ⟨-, -, rfl⟩ | ⟨-, -, rfl⟩ := execCompT_cases h <;> simp [State.reported]
  | compP =>
    obtain ⟨-, rfl⟩ | ⟨-, -, rfl⟩ | ⟨-, -, -, rfl⟩ | ⟨-, -, -, -, rfl⟩ | ⟨-, -, -, p, -, rfl⟩ := execCompP_cases h <;>
      simp [State.reported]
  | compH =>
    obtain ⟨-, rfl⟩ | ⟨-, -, rfl⟩ | ⟨-, -, -, rfl⟩ | ⟨-, -, -, -, rfl⟩ | ⟨-, -, -, -, rfl⟩ := execCompH_cases h <;>
      simp [State.reported]
  | sealevel =>
    obtain ⟨-, rfl⟩ | ⟨-, -, rfl⟩ | ⟨-, -, -, rfl⟩ | ⟨-, -, -, -, rfl⟩ := execSealevel_cases h <;> simp [State.reported]
  | avgT =>
    obtain ⟨-, rfl⟩ | ⟨-, -, rfl⟩ | ⟨-, -, -, rfl⟩ | ⟨-, -, -, rfl⟩ := execAvgT_cases h <;> simp [State.reported]
  | avgH =>
    obtain ⟨-, rfl⟩ | ⟨-, -, rfl⟩ | ⟨-, -, -, rfl⟩ | ⟨-, -, -, rfl⟩ := execAvgH_cases h <;> simp [State.reported]
  | avgClr => obtain ⟨-, -, rfl⟩ | ⟨-, rfl⟩ := execAvgClr_cases h <;> simp [State.reported]
  | measure =>
    obtain ⟨-, rfl⟩ | ⟨-, -, -, rfl⟩ | ⟨-, -, -, rfl⟩ | ⟨-, -, -, -, rfl⟩ | ⟨-, -, -, p, -, rfl⟩ :=
      execMeasure_cases h <;> simp [State.reported]

/-- No command touches the host's side of the port, reset included (assumption 17). -/
theorem exec_port {i : Instr} {s t : State} (h : exec i s = .next t) : t.port = s.port := by
  by_cases hi : i = .sreset
  case pos =>
    subst hi
    obtain rfl := execSreset_cases h
    exact applyReset_port s
  case neg =>
    obtain ⟨-, -, -, -, -, -, -, -, -, -, -, -, -, -, -, -, -, hport, -⟩ := onlyTheNamedCommandsWrite i s t hi h
    exact hport

/-! ### The model's own choices about its input -/

/-- R86, R88: a command whose feature the engine lacks only reports. -/
theorem exec_of_absent {i : Instr} {s : State} (habsent : featurePresent s.cfg i = false) :
    exec i s = .next (s.reported .illegalCmd) := by
  have hfeature : (!featurePresent s.cfg i) = true := by simp [habsent]
  cases i with
  | chkBusy | compH | sealevel | avgT | avgH | avgClr => exact if_pos hfeature
  | _ => cases habsent

/-- Settles O13: each clause by the law that says what the step, the access or the command does. -/
theorem idleStepAndFetchedWord : Obligations.IdleStepAndFetchedWord := by
  refine ⟨fun s => step_idle, fun s a rest => step_access, fun s r hmapped => ?read, fun i s t => exec_port,
    fun i s => exec_of_absent, fun s w i hdecode => ?fetch⟩
  case read =>
    rw [serve_read, accessReg_ok hmapped]
    rfl
  case fetch =>
    have hword : tableWord 32 w = BitVec.ofNat 32 w := BitVec.eq_of_toNat_eq (by simp [tableWord])
    have hserve : step (s.withFetchWord 32 w) = serve (cmdWrite (tableWord 32 w)) s := step_access rfl
    rw [hserve, hword, cmdWrite, serve, memWrite_cmd, runCommand_of_decode_ok hdecode]

/-! ### Several engines -/

/-- Settles O59: a step of engine `k` sets entry `k` of the list. -/
theorem enginesShareNothing : Obligations.EnginesShareNothing := by
  intro k es es' h
  rw [stepInstance] at h
  cases hk : es[k]? with
  | none =>
    rw [hk] at h
    cases h
    exact ⟨rfl, fun _ _ => rfl, fun s hs => by cases hs⟩
  | some s =>
    obtain ⟨hlt, -⟩ := List.getElem?_eq_some_iff.1 hk
    rw [hk] at h
    cases hstep : step s with
    | next t =>
      simp only [hstep] at h
      cases h
      refine ⟨List.length_set, fun j hj => List.getElem?_set_ne (Ne.symm hj), fun s' hs => ?_⟩
      cases hs
      exact ⟨t, hstep, List.getElem?_set_self hlt⟩
    | fault f =>
      simp only [hstep] at h
      cases h
    | refused r =>
      simp only [hstep] at h
      cases h

end Sys2Proof.Machine
end

section
/-! Proofs of the statements of spec/10_state.md: the places of the flags (R26, R31, R47) and that the registers hold the whole
state. -/

namespace Sys2Proof.Machine

/-! ### The places of the flags -/

theorem getLsbD_flagBit_of_ne {b : Bool} {k n : Nat} (h : n ≠ k) : (flagBit b k).getLsbD n = false := by
  simp [getLsbD_flagBit, h]

theorem statusWord_flags (f : Status) :
    let w := statusWord f
    w.getLsbD 4 = f.divz ∧ w.getLsbD 5 = f.tv ∧ w.getLsbD 6 = f.pv ∧ w.getLsbD 7 = f.hv ∧ w.getLsbD 8 = f.calValid ∧
      w.getLsbD 9 = f.hcz ∧ w.getLsbD 10 = f.rearm := by
  simp [statusWord, getLsbD_flagBit, -BitVec.getLsbD_eq_getElem]

theorem statusWord_code (f : Status) : (statusWord f).extractLsb' 0 4 = f.result.code := by
  ext k hk
  have hword : k < 32 := by omega
  rw [BitVec.getElem_extractLsb', Nat.zero_add, ← BitVec.getLsbD_eq_getElem hk]
  simp (disch := omega) [statusWord, getLsbD_flagBit_of_ne, hword, -BitVec.getLsbD_eq_getElem]

theorem boundWord_flags (b : Bound) :
    let w := boundWord b
    w.getLsbD 0 = b.t.low ∧ w.getLsbD 1 = b.t.high ∧ w.getLsbD 2 = b.p.low ∧ w.getLsbD 3 = b.p.high ∧
      w.getLsbD 4 = b.h.low ∧ w.getLsbD 5 = b.h.high := by
  simp [boundWord, getLsbD_flagBit, -BitVec.getLsbD_eq_getElem]

theorem getLsbD_fracWord (f : Frac) (n : Nat) :
    (fracWord f).getLsbD n = (f.digits.getLsbD n || (decide (n = 8) && f.neg)) := by
  by_cases hword : n < 32
  · simp [fracWord, getLsbD_flagBit, hword, -BitVec.getLsbD_eq_getElem]
  · have hne : n ≠ 8 := by omega
    simp [BitVec.getLsbD_of_ge _ n (Nat.not_lt.1 hword), BitVec.getLsbD_of_ge f.digits n (by omega), hne]

theorem fracWord_fields (f : Frac) :
    let w := fracWord f
    w.extractLsb' 0 8 = f.digits ∧ w.getLsbD 8 = f.neg ∧ w.extractLsb' 9 23 = 0#23 := by
  refine ⟨?digits, ?neg, ?reserved⟩
  case digits =>
    ext k hk
    have hne : k ≠ 8 := by omega
    rw [BitVec.getElem_extractLsb', Nat.zero_add, getLsbD_fracWord]
    simp [hne, hk]
  case neg => simp [getLsbD_fracWord, -BitVec.getLsbD_eq_getElem]
  case reserved =>
    ext k hk
    have hne : 9 + k ≠ 8 := by omega
    rw [BitVec.getElem_extractLsb', getLsbD_fracWord, BitVec.getLsbD_of_ge _ _ (by omega)]
    simp [hne]

/-- Settles O19: each register field by field. -/
theorem flagRegisterLayout : Obligations.FlagRegisterLayout := by
  intro s
  refine ⟨⟨statusWord_code s.status, statusWord_flags s.status⟩, boundWord_flags s.bound, ?fractions, rfl⟩
  case fractions =>
    simp only [List.forall_mem_cons, List.not_mem_nil, false_implies, implies_true, and_true]
    exact ⟨fracWord_fields _, fracWord_fields _, fracWord_fields _, fracWord_fields _⟩

/-! ### The registers determine the state -/

theorem ResultCode.code_injective : Function.Injective ResultCode.code := by
  have hinverse : ∀ r : ResultCode,
      [ResultCode.ok, .configError, .sensorBusy, .outOfRange, .divByZero, .calInvalid, .sequenceError,
        .illegalCmd][r.code.toNat]? = some r := by
    rintro (_ | _) <;> rfl
  intro a b h
  apply Option.some.inj
  rw [← hinverse a, h, hinverse b]

theorem statusWord_injective : Function.Injective statusWord := by
  intro f g h
  have hcode : f.result = g.result := ResultCode.code_injective (by rw [← statusWord_code f, h, statusWord_code])
  obtain ⟨f4, f5, f6, f7, f8, f9, f10⟩ := statusWord_flags f
  obtain ⟨g4, g5, g6, g7, g8, g9, g10⟩ := statusWord_flags g
  rw [h] at f4 f5 f6 f7 f8 f9 f10
  cases f
  cases g
  rw [Status.mk.injEq]
  exact ⟨hcode, f4.symm.trans g4, f5.symm.trans g5, f6.symm.trans g6, f7.symm.trans g7, f8.symm.trans g8,
    f9.symm.trans g9, f10.symm.trans g10⟩

theorem boundWord_injective : Function.Injective boundWord := by
  intro a b h
  obtain ⟨a0, a1, a2, a3, a4, a5⟩ := boundWord_flags a
  obtain ⟨b0, b1, b2, b3, b4, b5⟩ := boundWord_flags b
  rw [h] at a0 a1 a2 a3 a4 a5
  obtain ⟨⟨_, _⟩, ⟨_, _⟩, ⟨_, _⟩⟩ := a
  obtain ⟨⟨_, _⟩, ⟨_, _⟩, ⟨_, _⟩⟩ := b
  simp only [Bound.mk.injEq, BoundPair.mk.injEq]
  exact ⟨⟨a0.symm.trans b0, a1.symm.trans b1⟩, ⟨a2.symm.trans b2, a3.symm.trans b3⟩, a4.symm.trans b4,
    a5.symm.trans b5⟩

theorem fracWord_injective : Function.Injective fracWord := by
  intro f g h
  obtain ⟨fdigits, fneg, -⟩ := fracWord_fields f
  obtain ⟨gdigits, gneg, -⟩ := fracWord_fields g
  rw [h] at fdigits fneg
  cases f
  cases g
  rw [Frac.mk.injEq]
  exact ⟨fdigits.symm.trans gdigits, fneg.symm.trans gneg⟩

/-- A field no wider than a word is read without loss. -/
theorem setWidth_injective {n : Nat} (hn : n ≤ 32) : Function.Injective (BitVec.setWidth 32 : BitVec n → Word) := by
  intro x y h
  apply BitVec.eq_of_toNat_eq
  rw [← BitVec.toNat_setWidth_of_le hn (b := x), h, BitVec.toNat_setWidth_of_le hn]

theorem CoeffSet.eq_of_nth {α : Type} {c d : CoeffSet α} (h : ∀ k, c.nth k = d.nth k) : c = d := by
  cases c
  cases d
  rw [CoeffSet.mk.injEq]
  exact ⟨h 0, h 1, h 2, h 3, h 4, h 5, h 6, h 7, h 8, h 9, h 10, h 11, h 12, h 13, h 14, h 15, h 16, h 17⟩

theorem TempOut.eq_of_reads {a b : TempOut} (hfine : a.fine = b.fine) (hc100 : a.c100 = b.c100) (hint : a.int = b.int)
    (hfrac : fracWord a.frac = fracWord b.frac) : a = b := by
  cases a
  cases b
  rw [TempOut.mk.injEq]
  exact ⟨hfine, hc100, hint, fracWord_injective hfrac⟩

theorem PressOut.eq_of_reads {a b : PressOut} (hcomp : a.comp = b.comp) (hint : a.int = b.int) (hfrac : a.frac = b.frac) :
    a = b := by
  cases a
  cases b
  rw [PressOut.mk.injEq]
  exact ⟨hcomp, hint, hfrac⟩

theorem HumOut.eq_of_reads {a b : HumOut} (hq10 : a.q10 = b.q10) (hc100 : a.c100 = b.c100) (hint : a.int = b.int)
    (hfrac : fracWord a.frac = fracWord b.frac) : a = b := by
  cases a
  cases b
  rw [HumOut.mk.injEq]
  exact ⟨hq10, hc100, hint, fracWord_injective hfrac⟩

theorem AvgChan.eq_of_reads {a b : AvgChan} (hmean : a.mean = b.mean) (hint : a.int = b.int)
    (hfrac : fracWord a.frac = fracWord b.frac) (hcnt : a.cnt = b.cnt) (hwin : a.win = b.win) : a = b := by
  cases a
  cases b
  rw [AvgChan.mk.injEq]
  exact ⟨hmean, hint, fracWord_injective hfrac, hcnt, hwin⟩

/-- Windows of the length that the invariant fixes are equal when their mapped entries read alike. -/
theorem win_eq_of_entries {n : Nat} {en : Bool} {u v : List Word} (hn : n ≤ 64) (hu : u.length = windowLength en n)
    (hv : v.length = windowLength en n)
    (h : ∀ i : Fin 64, (en && decide (i.val < n)) = true → u.getD i.val 0 = v.getD i.val 0) : u = v := by
  refine List.ext_getElem (hu.trans hv.symm) fun k hk hk' => ?_
  cases en with
  | false => simp [hu, windowLength] at hk
  | true =>
    have hkn : k < n := by rwa [hu] at hk
    have hentry := h ⟨k, by omega⟩ (by simpa using hkn)
    rwa [List.getD_eq_getElem _ _ hk, List.getD_eq_getElem _ _ hk'] at hentry

/-- Settles O20: each field is read without loss at its registers, and the invariant fixes the windows' lengths. -/
theorem registersDetermineTheState : Obligations.RegistersDetermineTheState := by
  intro s t hs ht hcfg hport reg
  obtain ⟨-, -, hn, -⟩ := (params_legal_iff s.cfg).1 hs.legal
  have hwinT : s.avgT.win = t.avgT.win :=
    win_eq_of_entries hn hs.windowT.length (hcfg ▸ ht.windowT.length) fun i => reg (.winT i)
  have hwinH : s.avgH.win = t.avgH.win :=
    win_eq_of_entries hn hs.windowH.length (hcfg ▸ ht.windowH.length) fun i => reg (.winH i)
  have hstatus : s.status = t.status := statusWord_injective (reg .status rfl)
  have herr : s.err = t.err := setWidth_injective (by decide) (reg .err rfl)
  have hsensor : s.sensorStatus = t.sensorStatus := setWidth_injective (by decide) (reg .sensorStatus rfl)
  have hmode : s.mode = t.mode := setWidth_injective (by decide) (reg .mode rfl)
  have hbound : s.bound = t.bound := boundWord_injective (reg .bound rfl)
  have hadcP : s.adcP = t.adcP := setWidth_injective (by decide) (reg .adcP rfl)
  have hadcT : s.adcT = t.adcT := setWidth_injective (by decide) (reg .adcT rfl)
  have hadcH : s.adcH = t.adcH := setWidth_injective (by decide) (reg .adcH rfl)
  have htemp : s.temp = t.temp :=
    TempOut.eq_of_reads (reg .tFine rfl) (reg .tC100 rfl) (reg .tInt rfl) (reg .tFrac rfl)
  have hpress : s.press = t.press := PressOut.eq_of_reads (reg .pComp rfl) (reg .pInt rfl) (reg .pFrac rfl)
  have hhum : s.hum = t.hum := HumOut.eq_of_reads (reg .hQ10 rfl) (reg .hC100 rfl) (reg .hInt rfl) (reg .hFrac rfl)
  have havgT : s.avgT = t.avgT :=
    AvgChan.eq_of_reads (reg .avgT rfl) (reg .avgTInt rfl) (reg .avgTFrac rfl) (reg .avgTCnt rfl) hwinT
  have havgH : s.avgH = t.avgH :=
    AvgChan.eq_of_reads (reg .avgH rfl) (reg .avgHInt rfl) (reg .avgHFrac rfl) (reg .avgHCnt rfl) hwinH
  have hcalraw : s.calraw = t.calraw := Vector.ext fun k hk => reg (.calraw ⟨k, hk⟩) rfl
  have hdig : s.dig = t.dig := CoeffSet.eq_of_nth fun k => reg (.dig k) rfl
  cases s
  cases t
  rw [State.mk.injEq]
  exact ⟨hcfg, hport, hstatus, herr, hsensor, hmode, hbound, hcalraw, hdig, reg .raw0 rfl, reg .raw1 rfl, hadcP, hadcT,
    hadcH, htemp, hpress, hhum, reg .slp rfl, havgT, havgH⟩

end Sys2Proof.Machine
end

section
/-! Proofs of the statements of spec/46_averaging.md: what a window holds after any samples (R221, R222). -/

namespace Sys2Proof.Machine

/-! ### A run of pushes -/

/-- The channel holds the last `AVG_N` of the samples `xs`, in order. -/
structure HoldsLast (p : Params) (xs : List Word) (c : AvgChan) : Prop where
  samples : c.samples = xs.drop (xs.length - p.avgN)
  count : c.cnt.toNat = min xs.length p.avgN
  length : c.win.length = p.avgN
  mean : xs ≠ [] → asS c.mean = meanOf c.samples

theorem holdsLast_empty (p : Params) : HoldsLast p [] (AvgChan.empty p.avgN) where
  samples := by simp [AvgChan.samples, AvgChan.empty]
  count := (Nat.zero_min _).symm
  length := List.length_replicate
  mean := fun h => absurd rfl h

/-- R221: while filling, the new sample comes after the populated entries. -/
theorem Pushed.samples_of_filling {p : Params} {x : Word} {c c' : AvgChan} (h : Pushed p x c c')
    (hlength : c.win.length = p.avgN) (hfilling : c.cnt.toNat < p.avgN) : c'.samples = c.samples ++ [x] := by
  obtain ⟨hwin, hcnt⟩ := h.filling hfilling
  have hlt : c.cnt.toNat < (c.win.set c.cnt.toNat x).length := by rwa [List.length_set, hlength]
  rw [AvgChan.samples, AvgChan.samples, hwin, hcnt, ← List.take_concat_get' _ _ hlt, List.getElem_set_self,
    List.take_set_of_le le_rfl]

/-- R221: once full, the oldest sample makes room for the new one. -/
theorem Pushed.samples_of_full {p : Params} {x : Word} {c c' : AvgChan} (h : Pushed p x c c')
    (hlength : c.win.length = p.avgN) (hpos : 1 ≤ p.avgN) (hfull : c.cnt.toNat = p.avgN) :
    c'.samples = c.samples.tail ++ [x] := by
  obtain ⟨hwin, hcnt⟩ := h.full (by omega)
  have hall : c.win.take c.cnt.toNat = c.win := List.take_of_length_le (by omega)
  rw [AvgChan.samples, AvgChan.samples, hwin, hcnt, hall]
  refine List.take_of_length_le ?_
  rw [List.length_append, List.length_tail, List.length_singleton]
  omega

theorem HoldsLast.push {p : Params} {xs : List Word} {c : AvgChan} (h : HoldsLast p xs c) (hlegal : p.legal = true)
    (x : Word) : HoldsLast p (xs ++ [x]) (pushSample p x c) := by
  obtain ⟨hsamples, hcount, hlength, -⟩ := h
  obtain ⟨-, hpos, hmax, -⟩ := (params_legal_iff p).1 hlegal
  have hwithin : c.cnt.toNat ≤ p.avgN := hcount ▸ Nat.min_le_right ..
  have hpush := pushed_pushSample x hlegal hlength hwithin
  refine ⟨?samples, ?count, appendSample_win_length x hpos hlength, fun _ => hpush.mean⟩
  case samples =>
    rw [List.length_append, List.length_singleton]
    by_cases hfilling : c.cnt.toNat < p.avgN
    case pos =>
      rw [hpush.samples_of_filling hlength hfilling, hsamples]
      have hnone : xs.length - p.avgN = 0 := by omega
      have hnone' : xs.length + 1 - p.avgN = 0 := by omega
      rw [hnone, hnone', List.drop_zero, List.drop_zero]
    case neg =>
      rw [hpush.samples_of_full hlength hpos (by omega), hsamples, List.tail_drop]
      have hone : xs.length - p.avgN + 1 = xs.length + 1 - p.avgN := by omega
      rw [hone, List.drop_append_of_le_length (by omega)]
  case count =>
    rw [pushSample_cnt, appendSample_cnt_toNat x hmax hwithin, List.length_append, List.length_singleton]
    omega

theorem holdsLast_pushes {p : Params} (hlegal : p.legal = true) (xs : List Word) :
    HoldsLast p xs (xs.foldl (fun c x => pushSample p x c) (AvgChan.empty p.avgN)) := by
  induction xs using List.reverseRecOn with
  | nil => exact holdsLast_empty p
  | append_singleton xs x ih =>
    rw [List.foldl_concat]
    exact ih.push hlegal x

/-- Settles O47: by induction on the samples, the last push giving the mean. -/
theorem windowHoldsTheLastSamples : Obligations.WindowHoldsTheLastSamples := by
  intro p xs hlegal c
  obtain ⟨hsamples, hcount, hlength, hmean⟩ : HoldsLast p xs c := holdsLast_pushes hlegal xs
  exact ⟨hsamples, hcount, hlength, hsamples ▸ hmean⟩

end Sys2Proof.Machine
end

section
/-! Proofs of the statements on what the inputs do not matter for: `SENSOR_STATUS` bits (R28, R122) and the unused bytes of the
staging registers (R34, R35, R101-R103, R124). -/

namespace Sys2Proof.Machine

/-! ### Inputs that a command reads alike -/

/-- `s` with other values in `SENSOR_STATUS`, the calibration image and the second burst word. -/
def State.withInputs (s : State) (x : BitVec 8) (img : Vector Word 9) (w : Word) : State :=
  { s with sensorStatus := x, calraw := img, raw1 := w }

/-- The commands read the same from these inputs as from those of `s`: busy, the coefficients and the raw counts. -/
structure InputsAlike (s : State) (x : BitVec 8) (img : Vector Word 9) (w : Word) : Prop where
  busy : sensorBusy x = sensorBusy s.sensorStatus
  coeffs : unpackCal s.cfg.hasH img = unpackCal s.cfg.hasH s.calraw
  countT : burstT s.raw0 w = burstT s.raw0 s.raw1
  countH : s.cfg.hasH = true → burstH s.raw0 w = burstH s.raw0 s.raw1

/-- When the first outcome is a next state, the second is that state changed by `f`. -/
def Maps (f : State → State) (o o' : Out) : Prop := ∀ t : State, o = .next t → o' = .next (f t)

theorem Maps.finish {f : State → State} {c : ResultCode} {s s' : State}
    (h : s'.setStatus { s'.status with result := c } = f (s.setStatus { s.status with result := c }) := by rfl) :
    Maps f (finish c s) (finish c s') := by
  intro t ht
  rw [finish_eq_next] at ht ⊢
  rw [ht, h]

theorem Maps.ite {f : State → State} {P P' : Prop} [Decidable P] [Decidable P'] {a a' b b' : Out} (hP : P ↔ P')
    (ha : Maps f a a') (hb : Maps f b b') : Maps f (if P then a else b) (if P' then a' else b') := by
  by_cases h : P
  · rwa [if_pos h, if_pos (hP.1 h)]
  · rwa [if_neg h, if_neg (mt hP.2 h)]

theorem Maps.match_option {f : State → State} {x : Option Word} {a a' : Out} {b b' : Word → Out} (hnone : Maps f a a')
    (hsome : ∀ p, Maps f (b p) (b' p)) :
    Maps f (match x with | none => a | some p => b p) (match x with | none => a' | some p => b' p) := by
  cases x with
  | none => exact hnone
  | some p => exact hsome p

/-- The raw counts of alike inputs are the same. -/
theorem writeAdc_withInputs {s : State} {x : BitVec 8} {img : Vector Word 9} {w : Word} (h : InputsAlike s x img w) :
    writeAdc (s.withInputs x img w) = (writeAdc s).withInputs x img w := by
  let s' := s.withInputs x img w
  have hcounts : (s'.setAdcP (burstP s'.raw0 s'.raw1)).setAdcT (burstT s'.raw0 s'.raw1) =
      ((s.setAdcP (burstP s.raw0 s.raw1)).setAdcT (burstT s.raw0 s.raw1)).withInputs x img w :=
    congrArg (fun c => (s'.setAdcP (burstP s.raw0 s.raw1)).setAdcT c) h.countT
  by_cases hH : s.cfg.hasH = true
  case pos =>
    have hcountH : burstH s'.raw0 s'.raw1 = burstH s.raw0 s.raw1 := h.countH hH
    rw [writeAdc, writeAdc, if_pos (show s'.cfg.hasH = true from hH), if_pos hH, hcountH]
    exact congrArg (State.setAdcH · _) hcounts
  case neg =>
    rw [writeAdc, writeAdc, if_neg (show ¬s'.cfg.hasH = true from hH), if_neg hH]
    exact hcounts

/-- A command other than `SRESET` does to alike inputs what it does to those of `s`. -/
theorem exec_withInputs {i : Instr} {s : State} {x : BitVec 8} {img : Vector Word 9} {w : Word} (hreset : i ≠ .sreset)
    (h : InputsAlike s x img w) : Maps (·.withInputs x img w) (exec i s) (exec i (s.withInputs x img w)) := by
  have hbusy : sensorBusy s.sensorStatus = true ↔ sensorBusy x = true := by rw [h.busy]
  have hadc : writeAdc (beginCmd (s.withInputs x img w)) = (writeAdc (beginCmd s)).withInputs x img w :=
    writeAdc_withInputs (s := beginCmd s) ⟨h.busy, h.coeffs, h.countT, h.countH⟩
  cases i with
  | sreset => contradiction
  | nop | errClr | errSet => exact .finish
  | calLatch =>
    let s' := beginCmd (s.withInputs x img w)
    have hexec : exec .calLatch (s.withInputs x img w) =
        if (unpackCal s.cfg.hasH img).tpZero = true then finish .calInvalid (rejectCal s')
        else finish .ok (acceptCal (unpackCal s.cfg.hasH img) s') := rfl
    rw [hexec, h.coeffs]
    exact .ite .rfl .finish .finish
  | unpack =>
    refine .ite .rfl .finish ?_
    rw [hadc]
    exact .finish
  | chkBusy => exact .ite .rfl .finish (.ite .rfl .finish (.ite hbusy .finish .finish))
  | chkBounds | compT => exact .ite .rfl .finish (.ite .rfl .finish .finish)
  | sealevel | avgT | avgH => exact .ite .rfl .finish (.ite .rfl .finish (.ite .rfl .finish .finish))
  | compH => exact .ite .rfl .finish (.ite .rfl .finish (.ite .rfl .finish (.ite .rfl .finish .finish)))
  | avgClr => exact .ite .rfl .finish .finish
  | compP =>
    refine .ite .rfl .finish (.ite .rfl .finish (.ite .rfl .finish ?_))
    exact .match_option .finish fun p => .finish
  | measure =>
    refine .ite .rfl .finish (.ite (by rw [Bool.and_eq_true, Bool.and_eq_true]; exact and_congr_right' hbusy) .finish ?_)
    rw [hadc]
    refine .ite .rfl .finish ?_
    refine .match_option .finish fun p => .finish ?_
    simp only [commitOutputs_eq, commitWindows_eq]
    rfl

/-- The other inputs of `s`, which no command writes, stay its own. -/
theorem exec_of_inputsAlike {i : Instr} {s t : State} {x : BitVec 8} {img : Vector Word 9} {w : Word} (hreset : i ≠ .sreset)
    (h : InputsAlike s x img w) (hexec : exec i s = .next t) :
    exec i (s.withInputs x img w) = .next (t.withInputs x img w) ∧ t.calraw = s.calraw ∧ t.raw1 = s.raw1 ∧
      t.sensorStatus = s.sensorStatus := by
  obtain ⟨-, -, -, -, -, -, -, -, -, -, -, -, hcalraw, -, hraw1, -, hsensor, -⟩ :=
    onlyTheNamedCommandsWrite i s t hreset hexec
  exact ⟨exec_withInputs hreset h t hexec, hcalraw, hraw1, hsensor⟩

/-! ### `SENSOR_STATUS` -/

/-- Settles O56: only the two bits of the busy check are read. -/
theorem otherSensorStatusBitsIgnored : Obligations.OtherSensorStatusBitsIgnored := by
  intro i s t x hreset h3 h0 hexec
  have hbusy : sensorBusy x = sensorBusy s.sensorStatus := by rw [sensorBusy, sensorBusy, h3, h0]
  obtain ⟨hnext, hcalraw, hraw1, -⟩ :=
    exec_of_inputsAlike hreset (img := s.calraw) (w := s.raw1) ⟨hbusy, rfl, rfl, fun _ => rfl⟩ hexec
  exact hnext.trans (by rw [← hcalraw, ← hraw1]; rfl)

/-! ### Staging bytes -/

/-- R101-R103: the table reads bytes 0 to 23, and in the extended variant 25 to 32. -/
theorem coefficients_congr {hasH : Bool} {img img' : Vector Word 9}
    (h : ∀ j : Nat, j < 24 ∨ (hasH = true ∧ 24 < j ∧ j < 33) → Exact.cb img j = Exact.cb img' j) :
    Exact.coefficients hasH img = Exact.coefficients hasH img' := by
  cases hasH with
  | false => simp (disch := decide) [Exact.coefficients, Exact.le16, h]
  | true => simp (disch := decide) [Exact.coefficients, Exact.le16, h]

theorem lane_congr {w w' : Word} (h : w.extractLsb' 0 16 = w'.extractLsb' 0 16) {j : Nat} (hj : j < 2) :
    lane w j = lane w' j := by
  have hlow : ∀ w : Word, lane w j = (w.extractLsb' 0 16).extractLsb' (8 * j) 8 := by
    intro w
    ext k hk
    have hbit : 8 * j + k < 16 := by omega
    simp [lane, hbit]
  rw [hlow, hlow, h]

/-- R124: the temperature count takes bytes 4 and 5 from the second burst word. -/
theorem burstT_congr {r w w' : Word} (h : w.extractLsb' 0 16 = w'.extractLsb' 0 16) : burstT r w = burstT r w' := by
  have h4 : burstByte r w 4 = burstByte r w' 4 := lane_congr h (by decide)
  have h5 : burstByte r w 5 = burstByte r w' 5 := lane_congr h (by decide)
  rw [burstT, burstT, h4, h5]
  rfl

/-- Settles O57: the coefficients do not read the first bytes, nor the counts of the reduced variant the second. -/
theorem unusedStagingBytesIgnored : Obligations.UnusedStagingBytesIgnored := by
  refine ⟨fun s t img hbytes hexec => ?image, fun s t w hreduced hbytes i hi hexec => ?burst⟩
  case image =>
    have hcoeffs : unpackCal s.cfg.hasH img = unpackCal s.cfg.hasH s.calraw := by
      rw [unpackCal_eq_coefficients, unpackCal_eq_coefficients, coefficients_congr hbytes]
    obtain ⟨hnext, -, hraw1, hsensor⟩ :=
      exec_of_inputsAlike (i := .calLatch) nofun (x := s.sensorStatus) (w := s.raw1) ⟨rfl, hcoeffs, rfl, fun _ => rfl⟩ hexec
    exact hnext.trans (by rw [← hraw1, ← hsensor]; rfl)
  case burst =>
    have hreset : i ≠ .sreset := by
      rintro rfl
      simp at hi
    obtain ⟨hnext, hcalraw, -, hsensor⟩ :=
      exec_of_inputsAlike hreset (x := s.sensorStatus) (img := s.calraw)
        ⟨rfl, rfl, burstT_congr hbytes, fun h => by simp [hreduced] at h⟩ hexec
    exact hnext.trans (by rw [← hcalraw, ← hsensor]; rfl)

end Sys2Proof.Machine
end

section
/-! The invariant of the engine: it holds at power-on (R301) and every step keeps it. One rule per state operation, then the
values that the commands write, then the commands and the port. -/

namespace Sys2Proof.Machine

/-! ### What each update needs -/

/-- Temperature registers that the invariant allows in an engine with parameters `p` (R37, R46, R144). -/
structure TempOut.Good (p : Params) (x : TempOut) : Prop where
  written : x = .zero ∨ x = tempOf p.splitRule (asS x.fine) (asS x.c100)
  clamped : p.hasH = true → -4000 ≤ asS x.c100 ∧ asS x.c100 ≤ 8500

/-- Humidity registers that the invariant allows in an engine with parameters `p` (R39, R46, R186). -/
structure HumOut.Good (p : Params) (x : HumOut) : Prop where
  written : x = .zero ∨ x = humOf p.splitRule (asS x.q10) (Exact.humC (asS x.q10))
  range : 0 ≤ asS x.q10 ∧ asS x.q10 ≤ 102400
  reduced : p.hasH = false → x = .zero

section
variable {s : State} (h : s.Inv)
include h

theorem State.Inv.setPort (x : Port) : (s.setPort x).Inv := { h with }
theorem State.Inv.setErr (x : BitVec 2) : (s.setErr x).Inv := { h with }
theorem State.Inv.setAdcP (x : BitVec 20) : (s.setAdcP x).Inv := { h with }
theorem State.Inv.setAdcT (x : BitVec 20) : (s.setAdcT x).Inv := { h with }
theorem State.Inv.setAdcH (x : BitVec 16) : (s.setAdcH x).Inv := { h with }

/-- The report, the other flags but `CAL_VALID` and `HCZ`, and in the extended variant `HV`, may change freely. -/
theorem State.Inv.setStatus {x : Status} (hvalid : x.calValid = s.status.calValid := by rfl)
    (hhcz : x.hcz = s.status.hcz := by rfl) (hhv : s.cfg.hasH = false → x.hv = s.status.hv := by exact fun _ => rfl) :
    (s.setStatus x).Inv :=
  { h with
    valid := fun hx => h.valid (hvalid ▸ hx)
    advisory := fun hx => by
      have hadvisory := h.advisory (hvalid ▸ hx)
      rwa [← hhcz] at hadvisory
    reduced := fun hH => by
      obtain ⟨hdig, hbound, hhum, hv, hcz⟩ := h.reduced hH
      exact ⟨hdig, hbound, hhum, (hhv hH).trans hv, hhcz.trans hcz⟩ }

theorem State.Inv.reported (c : ResultCode) : (s.reported c).Inv := h.setStatus

theorem State.Inv.setBound {b : Bound} (hb : s.cfg.hasH = false → b.h = ⟨false, false⟩) : (s.setBound b).Inv :=
  { h with
    reduced := fun hH => by
      obtain ⟨hdig, -, hrest⟩ := h.reduced hH
      exact ⟨hdig, hb hH, hrest⟩ }

theorem State.Inv.setTemp {x : TempOut} (hx : x.Good s.cfg) : (s.setTemp x).Inv :=
  { h with
    temp := hx.written
    clamped := hx.clamped }

theorem State.Inv.setPress (p : Word) : (s.setPress (pressOut s.cfg.pCenti p)).Inv :=
  { h with press := pressOut_eq s.cfg.pCenti p }

theorem State.Inv.setHum {x : HumOut} (hx : x.Good s.cfg) : (s.setHum x).Inv :=
  { h with
    hum := hx.written
    humRange := hx.range
    reduced := fun hH => by
      obtain ⟨hdig, hbound, -, hrest⟩ := h.reduced hH
      exact ⟨hdig, hbound, hx.reduced hH, hrest⟩ }

theorem State.Inv.setSlp {x : Word} (hx : s.cfg.sealevelEn = false → x = 0) : (s.setSlp x).Inv :=
  { h with noSealevel := hx }

theorem State.Inv.setAvgT {x : AvgChan} (hx : x.Inv s.cfg s.cfg.avgTEn)
    (hrange : s.cfg.hasH = true → ∀ y ∈ x.win, -4000 ≤ asS y ∧ asS y ≤ 8500) : (s.setAvgT x).Inv :=
  { h with
    windowT := hx
    samplesT := hrange }

theorem State.Inv.setAvgH {x : AvgChan} (hx : x.Inv s.cfg s.cfg.avgHEn)
    (hrange : ∀ y ∈ x.win, 0 ≤ asS y ∧ asS y ≤ 10000) : (s.setAvgH x).Inv :=
  { h with
    windowH := hx
    samplesH := hrange }

end

/-! ### Reset -/

theorem AvgChan.inv_empty (p : Params) (en : Bool) : (AvgChan.empty (windowLength en p.avgN)).Inv p en where
  length := List.length_replicate
  count := Nat.zero_le _
  unused := fun _ hx => List.eq_of_mem_replicate (List.mem_of_mem_drop hx)
  empty := fun _ => ⟨rfl, rfl, rfl⟩
  reported := fun hcnt => absurd rfl hcnt

/-- An empty channel's entries are 0, which is in every range of samples. -/
theorem AvgChan.asS_of_mem_empty {n : Nat} {y : Word} (hy : y ∈ (AvgChan.empty n).win) : asS y = 0 := by
  rw [List.eq_of_mem_replicate hy]
  rfl

theorem CoeffSet.inRange_zero : (CoeffSet.const (0 : Word)).InRange := by
  constructor <;> simp [CoeffSet.const]

theorem pressOut_zero (pCenti : Bool) : pressOut pCenti 0 = { comp := 0, int := 0, frac := 0 } := by
  cases pCenti <;> rfl

theorem State.inv_powerOn {p : Params} (hlegal : p.legal = true) : (State.powerOn p).Inv where
  legal := hlegal
  windowT := AvgChan.inv_empty p p.avgTEn
  windowH := AvgChan.inv_empty p p.avgHEn
  coeffs := CoeffSet.inRange_zero
  valid := nofun
  advisory := nofun
  temp := .inl rfl
  clamped := fun _ => by simp [State.powerOn]
  press := (pressOut_zero p.pCenti).symm.trans (pressOut_eq p.pCenti 0)
  hum := .inl rfl
  humRange := by simp [State.powerOn]
  samplesT := fun _ y hy => by
    rw [AvgChan.asS_of_mem_empty hy]
    decide
  samplesH := fun y hy => by
    rw [AvgChan.asS_of_mem_empty hy]
    decide
  reduced := fun _ => ⟨by simp [State.powerOn, CoeffSet.const, Exact.humList], rfl, rfl, rfl, rfl⟩
  noSealevel := fun _ => rfl

/-- Settles O6: power-on writes zeros, and zeros meet every clause. -/
theorem powerOnMeetsTheInvariant : Obligations.PowerOnMeetsTheInvariant := fun _ => State.inv_powerOn

theorem State.Inv.applyReset {s : State} (h : s.Inv) : (applyReset s).Inv := (State.inv_powerOn h.legal).setPort s.port

/-! ### The values that the commands write -/

/-- R144, R145: a computed temperature. -/
theorem tempOut_compT_good (p : Params) (c : CoeffSet Word) (adc : BitVec 20) :
    (tempOut p.splitRule (compT p.hasH c adc).1 (compT p.hasH c adc).2).Good p where
  written := .inr (tempOut_eq ..)
  clamped := fun hH => by
    have hclamp : asS (compT p.hasH c adc).2 = Exact.clamp (Exact.shr _ 8) (-4000) 8500 :=
      (compT_snd_eq ..).trans (if_pos hH)
    show -4000 ≤ asS (compT p.hasH c adc).2 ∧ asS (compT p.hasH c adc).2 ≤ 8500
    rw [hclamp, Exact.clamp]
    omega

/-- R182-R184: a computed humidity. -/
theorem humOut_compH_good {p : Params} (hH : p.hasH = true) (c : CoeffSet Word) (adc : BitVec 16) (tf : Word) :
    (humOut p.splitRule (compH c adc tf).1 (compH c adc tf).2).Good p where
  written := .inr (humOut_eq ..)
  range := by
    have hq := humQ_range c adc.toNat (asS tf)
    rwa [← compH_fst_eq] at hq
  reduced := fun hno => by simp [hno] at hH

/-- R183, R228: the humidity that is pushed. -/
theorem asS_asU_humC {hq : Int} (h : 0 ≤ hq ∧ hq ≤ 102400) :
    0 ≤ asS (asU (Exact.humC hq)) ∧ asS (asU (Exact.humC hq)) ≤ 10000 := by
  have hc := humC_range h
  rwa [asS_asU, wrapS_of_range (by omega)]

/-- A state's reported humidity is in range. -/
theorem State.Inv.hum_c100_range {s : State} (h : s.Inv) : 0 ≤ asS s.hum.c100 ∧ asS s.hum.c100 ≤ 10000 := by
  obtain hzero | hwritten := h.hum
  · rw [hzero]
    decide
  · rw [hwritten]
    exact asS_asU_humC h.humRange

/-- R221: every entry after a push was there before, or is the sample. -/
theorem mem_pushSample_win {p : Params} {x y : Word} {c : AvgChan} (h : y ∈ (pushSample p x c).win) : y ∈ c.win ∨ y = x := by
  rw [pushSample_win] at h
  by_cases hfilling : c.cnt.toNat < p.avgN
  case pos =>
    rw [appendSample_of_filling x hfilling] at h
    exact List.mem_or_eq_of_mem_set h
  case neg =>
    rw [appendSample_of_full x hfilling, List.mem_append, List.mem_singleton] at h
    exact h.imp_left List.mem_of_mem_tail

/-- R221, R222: a push keeps a channel's invariant. -/
theorem AvgChan.Inv.push {p : Params} {en : Bool} {c : AvgChan} (h : c.Inv p en) (hlegal : p.legal = true) (hen : en = true)
    (x : Word) : (pushSample p x c).Inv p en := by
  subst hen
  obtain ⟨-, hpos, hmax, -⟩ := (params_legal_iff p).1 hlegal
  have hlength : c.win.length = p.avgN := h.length
  have hwithin : c.cnt.toNat ≤ p.avgN := hlength ▸ h.count
  have hpush := pushed_pushSample x hlegal hlength hwithin
  have hlength' : (pushSample p x c).win.length = p.avgN := appendSample_win_length x hpos hlength
  have hcnt' : (pushSample p x c).cnt.toNat = min (c.cnt.toNat + 1) p.avgN := appendSample_cnt_toNat x hmax hwithin
  refine ⟨hlength', by omega, ?unused, fun hzero => ?empty, fun _ => ⟨hpush.mean, hpush.int, hpush.frac⟩⟩
  case unused =>
    intro y hy
    by_cases hfilling : c.cnt.toNat < p.avgN
    case pos =>
      obtain ⟨hwin, hcnt⟩ := hpush.filling hfilling
      rw [hwin, hcnt, List.drop_set_of_lt (Nat.lt_succ_self _)] at hy
      exact h.unused y (List.mem_of_mem_drop (i := 1) (by rwa [List.drop_drop]))
    case neg =>
      rw [List.drop_eq_nil_of_le (by omega)] at hy
      cases hy
  case empty =>
    rw [hzero] at hcnt'
    simp at hcnt'
    omega

/-! ### The pushes -/

/-- R224, R228: a reported temperature is pushed. -/
theorem State.Inv.pushT {s : State} (h : s.Inv) (hen : s.cfg.avgTEn = true) {x : Word}
    (hx : s.cfg.hasH = true → -4000 ≤ asS x ∧ asS x ≤ 8500) : (s.setAvgT (pushSample s.cfg x s.avgT)).Inv := by
  refine h.setAvgT (h.windowT.push h.legal hen x) fun hH y hy => ?_
  obtain hold | rfl := mem_pushSample_win hy
  · exact h.samplesT hH y hold
  · exact hx hH

/-- R225, R228: a reported humidity is pushed. -/
theorem State.Inv.pushH {s : State} (h : s.Inv) (hen : s.cfg.avgHEn = true) {x : Word} (hx : 0 ≤ asS x ∧ asS x ≤ 10000) :
    (s.setAvgH (pushSample s.cfg x s.avgH)).Inv := by
  refine h.setAvgH (h.windowH.push h.legal hen x) fun y hy => ?_
  obtain hold | rfl := mem_pushSample_win hy
  · exact h.samplesH y hold
  · exact hx

end Sys2Proof.Machine
end

section
/-! The invariant of the engine, continued: the coefficients that `CAL_LATCH` writes, every command, every access, every step. -/

namespace Sys2Proof.Machine

/-! ### The coefficients of a calibration image -/

/-- Every coefficient is a value of its type (R33, R101). -/
structure CoeffSet.InTypes (c : CoeffSet Int) : Prop where
  unsigned16 : ∀ v ∈ [c.t1, c.p1], 0 ≤ v ∧ v < 2 ^ 16
  signed16 : ∀ v ∈ [c.t2, c.t3, c.p2, c.p3, c.p4, c.p5, c.p6, c.p7, c.p8, c.p9, c.h2], -(2 ^ 15) ≤ v ∧ v < 2 ^ 15
  unsigned8 : ∀ v ∈ [c.h1, c.h3], 0 ≤ v ∧ v < 2 ^ 8
  signed12 : ∀ v ∈ [c.h4, c.h5], -(2 ^ 11) ≤ v ∧ v < 2 ^ 11
  signed8 : -(2 ^ 7) ≤ c.h6 ∧ c.h6 < 2 ^ 7

theorem zextInt_range {n : Nat} (v : BitVec n) : 0 ≤ zextInt v ∧ zextInt v < 2 ^ n :=
  ⟨Int.natCast_nonneg _, Int.ofNat_lt.2 v.isLt |>.trans_eq (by push_cast; rfl)⟩

theorem sextInt_range {n : Nat} (v : BitVec n) : -(2 ^ (n - 1)) ≤ sextInt v ∧ sextInt v < 2 ^ (n - 1) :=
  ⟨BitVec.le_toInt v, BitVec.toInt_lt⟩

/-- R103: a humidity coefficient is its field, or 0. -/
theorem humCoeff_range {lo hi v : Int} (b : Bool) (h : lo ≤ v ∧ v < hi) (hzero : lo ≤ 0 ∧ 0 < hi := by decide) :
    lo ≤ (if b = true then v else 0) ∧ (if b = true then v else 0) < hi := by
  split
  · exact h
  · exact hzero

/-- R101-R103: every coefficient is a field of its type's width. -/
theorem unpackCal_inTypes (hasH : Bool) (img : Vector Word 9) : (unpackCal hasH img).InTypes where
  unsigned16 := by
    simp only [List.forall_mem_cons, List.not_mem_nil, false_implies, implies_true, and_true]
    exact ⟨zextInt_range _, zextInt_range _⟩
  signed16 := by
    simp only [List.forall_mem_cons, List.not_mem_nil, false_implies, implies_true, and_true]
    exact ⟨sextInt_range _, sextInt_range _, sextInt_range _, sextInt_range _, sextInt_range _, sextInt_range _,
      sextInt_range _, sextInt_range _, sextInt_range _, sextInt_range _, humCoeff_range hasH (sextInt_range _)⟩
  unsigned8 := by
    simp only [List.forall_mem_cons, List.not_mem_nil, false_implies, implies_true, and_true]
    exact ⟨humCoeff_range hasH (zextInt_range _), humCoeff_range hasH (zextInt_range _)⟩
  signed12 := by
    simp only [List.forall_mem_cons, List.not_mem_nil, false_implies, implies_true, and_true]
    exact ⟨humCoeff_range hasH (sextInt_range _), humCoeff_range hasH (sextInt_range _)⟩
  signed8 := humCoeff_range hasH (sextInt_range _)

section
variable {c : CoeffSet Int} (h : c.InTypes)
include h

/-- The registers hold the coefficients of their types. -/
theorem CoeffSet.InTypes.inRange : (c.map asU).InRange := by
  have hword : ∀ {lo hi : Int} {vs : List Int}, (∀ v ∈ vs, lo ≤ v ∧ v < hi) → -(2 ^ 31) ≤ lo → hi ≤ 2 ^ 31 →
      ∀ w ∈ vs.map asU, lo ≤ asS w ∧ asS w < hi := by
    intro lo hi vs hvs hlo hhi w hw
    obtain ⟨v, hv, rfl⟩ := List.mem_map.1 hw
    have hv := hvs v hv
    rwa [asS_asU, wrapS_of_range (by omega)]
  have hsigned8 := hword (List.forall_mem_singleton.2 h.signed8) (by decide) (by decide)
  exact ⟨hword h.unsigned16 (by decide) (by decide), hword h.signed16 (by decide) (by decide),
    hword h.unsigned8 (by decide) (by decide), hword h.signed12 (by decide) (by decide),
    hsigned8 _ (List.mem_singleton_self _)⟩

/-- A register is 0 only when its coefficient is. -/
theorem CoeffSet.InTypes.asU_eq_zero_iff {v : Int} (hv : v ∈ Exact.tpList c ∨ v ∈ Exact.humList c) : asU v = 0 ↔ v = 0 := by
  have hlists : v ∈ [c.t1, c.p1] ∨ v ∈ [c.t2, c.t3, c.p2, c.p3, c.p4, c.p5, c.p6, c.p7, c.p8, c.p9, c.h2] ∨
      v ∈ [c.h1, c.h3] ∨ v ∈ [c.h4, c.h5] ∨ v = c.h6 := by
    simp only [Exact.tpList, Exact.humList, List.mem_cons, List.not_mem_nil, or_false] at hv ⊢
    tauto
  have hrange : -(2 ^ 31) ≤ v ∧ v < 2 ^ 31 := by
    obtain hv | hv | hv | hv | rfl := hlists
    · have := h.unsigned16 v hv
      omega
    · have := h.signed16 v hv
      omega
    · have := h.unsigned8 v hv
      omega
    · have := h.signed12 v hv
      omega
    · have := h.signed8
      omega
  refine ⟨fun hzero => ?_, fun hzero => by rw [hzero]; rfl⟩
  rw [← wrapS_of_range hrange, ← asS_asU, hzero]
  rfl

end

/-- R111: a successful latch. -/
theorem State.Inv.acceptCal {s : State} (h : s.Inv) (hnonzero : (unpackCal s.cfg.hasH s.calraw).tpZero = false) :
    (acceptCal (unpackCal s.cfg.hasH s.calraw) s).Inv := by
  have htypes := unpackCal_inTypes s.cfg.hasH s.calraw
  have hreduced : s.cfg.hasH = false → ∀ v ∈ Exact.humList (unpackCal s.cfg.hasH s.calraw), v = 0 := by
    intro hH
    simp [unpackCal, Exact.humList, hH]
  revert htypes hnonzero hreduced
  generalize unpackCal s.cfg.hasH s.calraw = c
  intro hnonzero htypes hreduced
  exact
    { h with
      coeffs := htypes.inRange
      valid := fun _ w hw hzero => by
        obtain ⟨v, hv, rfl⟩ := List.mem_map.1 (show w ∈ (Exact.tpList c).map asU from hw)
        have hexists := (tpZero_iff c).2 ⟨v, hv, (htypes.asU_eq_zero_iff (.inl hv)).1 hzero⟩
        simp [hnonzero] at hexists
      advisory := fun _ => by
        have hwords : (∃ w ∈ (Exact.humList c).map asU, w = 0) ↔ ∃ v ∈ Exact.humList c, v = 0 := by
          simp only [List.mem_map, exists_exists_and_eq_and]
          exact exists_congr fun v => and_congr_right fun hv => htypes.asU_eq_zero_iff (.inr hv)
        exact Bool.and_eq_true_iff.trans (and_congr_right fun _ => (humZero_iff c).trans hwords.symm)
      reduced := fun hH => by
        obtain ⟨-, hbound, hhum, -⟩ := h.reduced hH
        refine ⟨fun w hw => ?_, hbound, hhum, rfl, Bool.and_eq_false_iff.2 (.inl hH)⟩
        obtain ⟨v, hv, rfl⟩ := List.mem_map.1 (show w ∈ (Exact.humList c).map asU from hw)
        exact (htypes.asU_eq_zero_iff (.inr hv)).2 (hreduced hH v hv) }

/-! ### The commands -/

/-- R128: the humidity check of the reduced variant. -/
theorem checkH_bound_of_reduced {s : State} (hH : s.cfg.hasH = false) : (checkH s).bound.h = ⟨false, false⟩ := by
  simp [checkH, hH]

/-- R104: a rejected calibration set. -/
theorem State.Inv.rejectCal {s : State} (h : s.Inv) : (rejectCal s).Inv :=
  { h with
    valid := fun hvalid => nomatch hvalid
    advisory := fun hvalid => nomatch hvalid }

/-- R226: an emptied channel. -/
theorem State.Inv.clearChans {s : State} (h : s.Inv) :
    ((s.setAvgT (clearChan s.avgT)).setAvgH (clearChan s.avgH)).Inv := by
  have hT : (s.setAvgT (clearChan s.avgT)).Inv := by
    rw [clearChan_of_inv h.windowT]
    refine h.setAvgT (AvgChan.inv_empty ..) fun _ y hy => ?_
    rw [AvgChan.asS_of_mem_empty hy]
    decide
  rw [clearChan_of_inv h.windowH]
  refine hT.setAvgH (AvgChan.inv_empty ..) fun y hy => ?_
  rw [AvgChan.asS_of_mem_empty hy]
  decide

theorem State.Inv.writeAdc {s : State} (h : s.Inv) : (writeAdc s).Inv := by
  rw [writeAdc_eq]
  exact ((h.setAdcP _).setAdcT _).setAdcH _

theorem State.Inv.checkAll {s : State} (h : s.Inv) : (checkAll s).Inv := by
  rw [checkAll_eq]
  exact h.setBound fun hH => by simp [hH]

theorem State.Inv.ite {P : Prop} [Decidable P] {s t : State} (h : P → s.Inv) (h' : t.Inv) : (if P then s else t).Inv := by
  split
  · exact h ‹_›
  · exact h'

/-- R244, R245: the commit of the outputs. -/
theorem State.Inv.commitOutputs {s : State} (h : s.Inv) (p : Word) : (commitOutputs (cycleResult s p) s).Inv := by
  have htemp : (setTv true (writeT (cycleResult s p).temp s)).Inv :=
    (h.setTemp (tempOut_compT_good s.cfg s.dig s.adcT)).setStatus
  have hpress := (htemp.setPress p).setStatus (x := { s.status with tv := true, pv := true })
  have hhum := State.Inv.ite (P := s.cfg.hasH = true)
    (fun hH => (hpress.setHum (humOut_compH_good hH s.dig s.adcH (cycleResult s p).temp.1)).setStatus
      (x := { s.status with tv := true, pv := true, hv := true })
      (hhv := fun hno => absurd (hno.symm.trans hH) Bool.false_ne_true)) hpress
  exact .ite (fun hS => hhum.setSlp fun hno => absurd (hno.symm.trans hS) Bool.false_ne_true) hhum

/-- R228, R244: the pushes of reported values. -/
theorem State.Inv.commitWindows {s : State} (h : s.Inv) {x : CycleResult}
    (hT : s.cfg.hasH = true → -4000 ≤ asS x.temp.2 ∧ asS x.temp.2 ≤ 8500)
    (hH : 0 ≤ asS (asU x.hum.2) ∧ asS (asU x.hum.2) ≤ 10000) : (commitWindows x s).Inv := by
  have hpushT := State.Inv.ite (P := s.cfg.avgTEn = true) (fun hen => h.pushT hen hT) h
  exact .ite (fun hen => hpushT.pushH hen hH) hpushT

/-- Step 9 of R244 pushes what steps 5 and 7 computed. -/
theorem State.Inv.commit {s : State} (h : s.Inv) (p : Word) :
    (Machine.commitWindows (cycleResult s p) (Machine.commitOutputs (cycleResult s p) s)).Inv := by
  have hq := humQ_range s.dig s.adcH.toNat (asS (compT s.cfg.hasH s.dig s.adcT).1)
  have hcfg : (Machine.commitOutputs (cycleResult s p) s).cfg = s.cfg := by rw [commitOutputs_eq]
  refine (h.commitOutputs p).commitWindows (fun hH => ?_) ?_
  · exact (tempOut_compT_good s.cfg s.dig s.adcT).clamped (hcfg ▸ hH)
  · have hhum := asS_asU_humC hq
    rwa [← compH_snd_eq] at hhum

/-- R244-R246: the whole cycle, by its gates. -/
theorem State.Inv.measure {s : State} (h : s.Inv) : Ensures State.Inv (Machine.exec .measure s) := by
  have hbegin : (beginCmd s).Inv := h.setStatus
  have hacquired := hbegin.writeAdc.checkAll
  have hdivz (b : Bool) : (setDivz b (Machine.checkAll (Machine.writeAdc (beginCmd s)))).Inv := hacquired.setStatus
  refine .ite (.finish hbegin.setStatus) (.ite (.finish hbegin.setStatus) (.ite (.finish hacquired.setStatus) ?_))
  split
  · exact .finish (hdivz true).setStatus
  · rename_i p _
    exact .finish ((hdivz false).commit p).setStatus.setStatus

theorem State.Inv.bound_h_of_reduced {s : State} (h : s.Inv) (hH : s.cfg.hasH = false) : s.bound.h = ⟨false, false⟩ := by
  obtain ⟨-, hbound, -⟩ := h.reduced hH
  exact hbound

/-- Every command keeps the invariant, by the cases of its meaning. -/
theorem State.Inv.exec {i : Instr} {s t : State} (h : s.Inv) (hexec : exec i s = .next t) : t.Inv := by
  cases i with
  | nop =>
    obtain rfl := execNop_cases hexec
    exact h.reported _
  | sreset =>
    obtain rfl := execSreset_cases hexec
    exact h.applyReset
  | errClr =>
    obtain rfl := execErrClr_cases hexec
    exact (h.setErr _).reported _
  | errSet m =>
    obtain rfl := execErrSet_cases hexec
    exact (h.setErr _).reported _
  | calLatch =>
    obtain ⟨-, rfl⟩ | ⟨hnonzero, rfl⟩ := execCalLatch_cases hexec
    · exact h.rejectCal.reported _
    · exact (h.acceptCal hnonzero).reported _
  | chkBusy =>
    obtain ⟨-, rfl⟩ | ⟨-, -, rfl⟩ | ⟨-, -, -, rfl⟩ | ⟨-, -, -, rfl⟩ := execChkBusy_cases hexec <;> exact h.reported _
  | unpack =>
    obtain ⟨-, rfl⟩ | ⟨-, rfl⟩ := execUnpack_cases hexec
    · exact h.reported _
    · have hadc := h.writeAdc
      rw [writeAdc_eq] at hadc
      exact hadc.reported _
  | chkBounds =>
    have hbound : (s.setBound (Machine.checkAll s).bound).Inv := h.setBound fun hH => checkH_bound_of_reduced hH
    obtain ⟨-, rfl⟩ | ⟨-, -, rfl⟩ | ⟨-, -, rfl⟩ := execChkBounds_cases hexec
    · exact h.reported _
    · exact hbound.reported _
    · exact hbound.reported _
  | compT =>
    have hbound : (s.setBound (checkT s).bound).Inv := h.setBound h.bound_h_of_reduced
    obtain ⟨-, rfl⟩ | ⟨-, -, rfl⟩ | ⟨-, -, rfl⟩ := execCompT_cases hexec
    · exact h.reported _
    · exact hbound.reported _
    · exact ((hbound.setTemp (tempOut_compT_good s.cfg s.dig s.adcT)).setStatus
        (x := { s.status with tv := true })).reported _
  | compP =>
    have hbound : (s.setBound (checkP s).bound).Inv := h.setBound h.bound_h_of_reduced
    obtain ⟨-, rfl⟩ | ⟨-, -, rfl⟩ | ⟨-, -, -, rfl⟩ | ⟨-, -, -, -, rfl⟩ | ⟨-, -, -, p, -, rfl⟩ := execCompP_cases hexec
    · exact h.reported _
    · exact h.reported _
    · exact hbound.reported _
    · exact (hbound.setStatus (x := { s.status with divz := true })).reported _
    · exact ((hbound.setPress p).setStatus (x := { s.status with divz := false, pv := true })).reported _
  | compH =>
    have hbound : (s.setBound (checkH s).bound).Inv := h.setBound checkH_bound_of_reduced
    obtain ⟨-, rfl⟩ | ⟨-, -, rfl⟩ | ⟨-, -, -, rfl⟩ | ⟨-, -, -, -, rfl⟩ | ⟨hH, -, -, -, rfl⟩ := execCompH_cases hexec
    · exact h.reported _
    · exact h.reported _
    · exact h.reported _
    · exact hbound.reported _
    · exact ((hbound.setHum (humOut_compH_good hH s.dig s.adcH s.temp.fine)).setStatus (x := { s.status with hv := true })
        (hhv := fun hno => absurd (hno.symm.trans hH) Bool.false_ne_true)).reported _
  | sealevel =>
    obtain ⟨-, rfl⟩ | ⟨-, -, rfl⟩ | ⟨-, -, -, rfl⟩ | ⟨hpresent, -, -, -, rfl⟩ := execSealevel_cases hexec
    · exact h.reported _
    · exact h.reported _
    · exact h.reported _
    · exact (h.setSlp fun hno => absurd (hno.symm.trans hpresent) Bool.false_ne_true).reported _
  | avgT =>
    obtain ⟨-, rfl⟩ | ⟨-, -, rfl⟩ | ⟨-, -, -, rfl⟩ | ⟨hpresent, -, -, rfl⟩ := execAvgT_cases hexec
    · exact h.reported _
    · exact h.reported _
    · exact h.reported _
    · exact (h.pushT hpresent h.clamped).reported _
  | avgH =>
    obtain ⟨-, rfl⟩ | ⟨-, -, rfl⟩ | ⟨-, -, -, rfl⟩ | ⟨hpresent, -, -, rfl⟩ := execAvgH_cases hexec
    · exact h.reported _
    · exact h.reported _
    · exact h.reported _
    · exact (h.pushH hpresent h.hum_c100_range).reported _
  | avgClr =>
    obtain ⟨-, -, rfl⟩ | ⟨-, rfl⟩ := execAvgClr_cases hexec
    · exact h.reported _
    · exact h.clearChans.reported _
  | measure => exact h.measure t hexec

/-! ### The steps -/

theorem State.Inv.storeReg {s : State} (h : s.Inv) (r : Reg) (v : Word) : (storeReg s r v).Inv := by
  cases r with
  | sensorStatus | mode | calraw k | raw0 | raw1 | adcP | adcT | adcH => exact { h with }
  | _ => exact h

theorem State.Inv.runCommand {w : Word} {s t : State} (h : s.Inv) (hrun : runCommand w s = .next t) : t.Inv := by
  obtain ⟨i, -, hexec⟩ | ⟨e, -, rfl⟩ := runCommand_cases hrun
  · exact h.exec hexec
  · exact h.reported _

theorem State.Inv.serve {a : Access} {s t : State} (h : s.Inv) (hserve : serve a s = .next t) : t.Inv := by
  obtain ⟨off, bytes, r, -, -, rfl⟩ | ⟨off, bytes, v, r, -, -, hwrite⟩ := serve_cases hserve
  · exact h.setPort _
  · by_cases hr : r = .cmd
    · subst hr
      exact h.runCommand hwrite
    · rw [writeReg_of_ne_cmd s v hr] at hwrite
      cases hwrite
      exact h.storeReg r v

/-- Settles O7: an idle step changes nothing, and any other serves an access. -/
theorem stepKeepsTheInvariant : Obligations.StepKeepsTheInvariant := by
  intro s t h hstep
  cases hpending : s.port.pending with
  | nil =>
    rw [step_idle hpending] at hstep
    cases hstep
    exact h
  | cons a rest =>
    rw [step_access hpending] at hstep
    exact (h.setPort _).serve hstep

end Sys2Proof.Machine
end

section
/-! Proof that the step commands of a measurement cycle, run in order, agree with one `MEASURE` (spec/47_control.md R249). -/

namespace Sys2Proof.Machine

/-! ### Running commands in order -/

theorem runCommands_cons_ok {i : Instr} {rest : List Instr} {s t : State} (h : exec i s = .next t)
    (hok : t.status.result = .ok) : runCommands (i :: rest) s = runCommands rest t := by
  simp only [runCommands, h, if_pos hok]

theorem runCommands_cons_failed {i : Instr} {rest : List Instr} {s t : State} (h : exec i s = .next t)
    (hfailed : t.status.result ≠ .ok) : runCommands (i :: rest) s = .next t := by
  simp only [runCommands, h, if_neg hfailed]

/-- A command that the engine may lack is run or left out. -/
theorem runCommands_optional {p : Params} {i : Instr} {rest : List Instr} {s t : State} (hcfg : s.cfg = p)
    (h : featurePresent s.cfg i = true → exec i s = .next t ∧ t.status.result = .ok) :
    runCommands ((i :: rest).filter (featurePresent p)) s =
      runCommands (rest.filter (featurePresent p)) (if featurePresent s.cfg i = true then t else s) := by
  subst hcfg
  by_cases hi : featurePresent s.cfg i = true
  case pos =>
    obtain ⟨hexec, hok⟩ := h hi
    rw [List.filter_cons_of_pos hi, runCommands_cons_ok hexec hok, if_pos hi]
  case neg => rw [List.filter_cons_of_neg hi, if_neg hi]

/-! ### States inside a cycle -/

/-- A state between two step commands of a cycle: the gate is open and the last command reported `OK`. -/
structure InCycle (p : Params) (s : State) : Prop where
  cfg : s.cfg = p
  opened : ¬s.Blocked
  result : s.status.result = .ok
  rearm : s.status.rearm = false

section
variable {p : Params} {s : State} (h : InCycle p s)
include h

theorem InCycle.beginCmd_eq : beginCmd s = s := by
  rw [beginCmd, ← h.rearm]
  exact s.setStatus_self

theorem InCycle.gate : gateClosed s = false := by
  have hopen := mt (gateClosed_beginCmd s).1 h.opened
  rwa [h.beginCmd_eq, Bool.not_eq_true] at hopen

end

theorem finish_of_result {c : ResultCode} {s : State} (h : s.status.result = c) : finish c s = .next s := by
  rw [finish, ← h]
  rfl

/-- The flags that a bound check would write are those that `s` has. -/
theorem channelChecks_of_checkAll {s : State} (h : checkAll s = s) : checkT s = s ∧ checkP s = s ∧ checkH s = s := by
  have hT : (checkT s).bound.t = s.bound.t := congrArg (·.bound.t) h
  have hP : (checkP s).bound.p = s.bound.p := congrArg (·.bound.p) h
  have hH : (checkH s).bound.h = s.bound.h := congrArg (·.bound.h) h
  exact ⟨congrArg (fun b => s.setBound { s.bound with t := b }) hT,
    congrArg (fun b => s.setBound { s.bound with p := b }) hP, congrArg (fun b => s.setBound { s.bound with h := b }) hH⟩

/-! The commits of the compensation steps keep the result. -/

section
variable {s : State} (h : s.status.result = .ok)
include h

theorem finish_writeT (x : Word × Word) : finish .ok (setTv true (writeT x s)) = .next (setTv true (writeT x s)) :=
  finish_of_result h

theorem finish_writeP (x : Word) :
    finish .ok (setPv true (writeP x (setDivz false s))) = .next (setPv true (writeP x (setDivz false s))) :=
  finish_of_result h

theorem finish_writeH (x : Word × Int) : finish .ok (setHv true (writeH x s)) = .next (setHv true (writeH x s)) :=
  finish_of_result h

end

/-! ### The step commands inside a cycle -/

section
variable {p : Params} {s : State} (h : InCycle p s)
include h

theorem InCycle.exec_compT (hcheck : checkT s = s) (hbound : s.bound.t.any = false) :
    exec .compT s = .next (setTv true (writeT (compT s.cfg.hasH s.dig s.adcT) s)) := by
  show execCompT s = _
  simp only [execCompT, h.beginCmd_eq, h.gate, hcheck, hbound, Bool.false_eq_true, if_false]
  exact finish_writeT h.result _

theorem InCycle.exec_compP_none (htv : s.status.tv = true) (hcheck : checkP s = s) (hbound : s.bound.p.any = false)
    (hp : compP s.dig s.adcP s.temp.fine = none) : exec .compP s = finish .divByZero (setDivz true s) := by
  show execCompP s = _
  simp only [execCompP, h.beginCmd_eq, h.gate, htv, hcheck, hbound, hp, Bool.not_true, Bool.false_eq_true, if_false]

theorem InCycle.exec_compP_some (htv : s.status.tv = true) (hcheck : checkP s = s) (hbound : s.bound.p.any = false)
    {w : Word} (hp : compP s.dig s.adcP s.temp.fine = some w) :
    exec .compP s = .next (setPv true (writeP w (setDivz false s))) := by
  show execCompP s = _
  simp only [execCompP, h.beginCmd_eq, h.gate, htv, hcheck, hbound, hp, Bool.not_true, Bool.false_eq_true, if_false]
  exact finish_writeP h.result _

theorem InCycle.exec_compH (hpresent : s.cfg.hasH = true) (htv : s.status.tv = true) (hcheck : checkH s = s)
    (hbound : s.bound.h.any = false) :
    exec .compH s = .next (setHv true (writeH (compH s.dig s.adcH s.temp.fine) s)) := by
  show execCompH s = _
  simp only [execCompH, h.beginCmd_eq, h.gate, hpresent, htv, hcheck, hbound, Bool.not_true, Bool.false_eq_true, if_false]
  exact finish_writeH h.result _

theorem InCycle.exec_sealevel (hpresent : s.cfg.sealevelEn = true) (htv : s.status.tv = true) (hpv : s.status.pv = true) :
    exec .sealevel s = .next (s.setSlp (sealevelFn s.cfg s.press.comp s.temp.c100)) := by
  show execSealevel s = _
  simp only [execSealevel, h.beginCmd_eq, h.gate, hpresent, htv, hpv, Bool.not_true, Bool.or_self, Bool.false_eq_true,
    if_false]
  exact finish_of_result h.result

theorem InCycle.exec_avgT (hpresent : s.cfg.avgTEn = true) (htv : s.status.tv = true) :
    exec .avgT s = .next (s.setAvgT (pushSample s.cfg s.temp.c100 s.avgT)) := by
  show execAvgT s = _
  simp only [execAvgT, h.beginCmd_eq, h.gate, hpresent, htv, Bool.not_true, Bool.false_eq_true, if_false]
  exact finish_of_result h.result

theorem InCycle.exec_avgH (hpresent : s.cfg.avgHEn = true) (hhv : s.status.hv = true) :
    exec .avgH s = .next (s.setAvgH (pushSample s.cfg s.hum.c100 s.avgH)) := by
  show execAvgH s = _
  simp only [execAvgH, h.beginCmd_eq, h.gate, hpresent, hhv, Bool.not_true, Bool.false_eq_true, if_false]
  exact finish_of_result h.result

end

/-! ### The results that a cycle has computed -/

/-- A state of a cycle past its compensation steps: the registers hold the results `x`, and their flags are set. -/
structure Computed (p : Params) (x : CycleResult) (s : State) : Prop extends InCycle p s where
  tv : s.status.tv = true
  pv : s.status.pv = true
  hv : p.hasH = true → s.status.hv = true
  temp : s.temp.c100 = x.temp.2
  press : s.press.comp = x.press
  hum : p.hasH = true → s.hum.c100 = asU x.hum.2

theorem Computed.ite {p : Params} {x : CycleResult} {s t : State} {P : Prop} [Decidable P] (ht : P → Computed p x t)
    (hs : ¬P → Computed p x s) : Computed p x (if P then t else s) := by
  split
  · exact ht ‹_›
  · exact hs ‹_›

/-- R200, R224, R225: the commands after compensation do what the end of `MEASURE` does with the same results. -/
theorem Computed.run {p : Params} {x : CycleResult} {s : State} (h : Computed p x s) (hlegal : p.legal = true)
    (hslp : x.slp = sealevelFn p x.press x.temp.2) :
    runCommands ([Instr.sealevel, .avgT, .avgH].filter (featurePresent p)) s =
      .next (commitWindows x (if s.cfg.sealevelEn = true then s.setSlp x.slp else s)) := by
  obtain ⟨havg, -⟩ := (params_legal_iff p).1 hlegal
  rw [runCommands_optional (t := s.setSlp x.slp) h.cfg fun hpresent =>
    ⟨by rw [h.exec_sealevel hpresent h.tv h.pv, h.press, h.temp, h.cfg, hslp], h.result⟩]
  have h₁ : Computed p x (if s.cfg.sealevelEn = true then s.setSlp x.slp else s) := .ite (fun _ => { h with }) fun _ => h
  change runCommands _ (if s.cfg.sealevelEn = true then s.setSlp x.slp else s) = _
  generalize (if s.cfg.sealevelEn = true then s.setSlp x.slp else s) = s₁ at h₁ ⊢
  let s₂ := if s₁.cfg.avgTEn = true then s₁.setAvgT (pushSample s₁.cfg x.temp.2 s₁.avgT) else s₁
  have h₂ : Computed p x s₂ := .ite (fun _ => { h₁ with }) fun _ => h₁
  rw [runCommands_optional (t := s₁.setAvgT (pushSample s₁.cfg x.temp.2 s₁.avgT)) h₁.cfg fun hpresent =>
    ⟨by rw [h₁.exec_avgT hpresent h₁.tv, h₁.temp], h₁.result⟩]
  change runCommands _ s₂ = _
  have hH : s₂.cfg.avgHEn = true → p.hasH = true := by rwa [h₂.cfg]
  rw [runCommands_optional (t := s₂.setAvgH (pushSample s₂.cfg (asU x.hum.2) s₂.avgH)) h₂.cfg fun hpresent =>
    ⟨by rw [h₂.exec_avgH hpresent (h₂.hv (hH hpresent)), h₂.hum (hH hpresent)], h₂.result⟩]
  rfl

/-! ### The compensation steps -/

/-- The commands of a cycle from the temperature on. -/
def compensationCommands : List Instr := [.compT, .compP, .compH, .sealevel, .avgT, .avgH]

/-- The flags of a state that its own bound checks would not change, none of them 1. -/
structure InBounds (s : State) : Prop where
  checked : checkAll s = s
  none : s.bound.any = false

theorem InBounds.channels {s : State} (h : InBounds s) :
    s.bound.t.any = false ∧ s.bound.p.any = false ∧ s.bound.h.any = false := by
  have hnone := h.none
  simpa [Bound.any, and_assoc] using hnone

theorem InCycle.afterT {p : Params} {s : State} (h : InCycle p s) (tf : Word × Word) :
    InCycle p (setTv true (writeT tf s)) :=
  ⟨h.cfg, h.opened, h.result, h.rearm⟩

section
variable {p : Params} {s : State} (h : InCycle p s) (hbounds : InBounds s)
include h hbounds

/-- R140: the first compensation step succeeds and the pressure step finds its temperature. -/
theorem InCycle.run_compT {tf : Word × Word} (htemp : compT s.cfg.hasH s.dig s.adcT = tf) (rest : List Instr) :
    runCommands ((.compT :: rest).filter (featurePresent p)) s =
      runCommands (rest.filter (featurePresent p)) (setTv true (writeT tf s)) := by
  obtain ⟨hcheck, -, -⟩ := channelChecks_of_checkAll hbounds.checked
  obtain ⟨hnone, -, -⟩ := hbounds.channels
  have hexec := h.exec_compT hcheck hnone
  rw [htemp] at hexec
  rw [List.filter_cons_of_pos rfl, runCommands_cons_ok hexec h.result]



/-- R163: a zero denominator ends the run. -/
theorem InCycle.run_of_divByZero {tf : Word × Word} (htemp : compT s.cfg.hasH s.dig s.adcT = tf)
    (hpress : compP s.dig s.adcP tf.1 = none) :
    runCommands (compensationCommands.filter (featurePresent p)) s =
      finish .divByZero (setDivz true (setTv true (writeT tf s))) := by
  obtain ⟨-, hcheck, -⟩ := channelChecks_of_checkAll hbounds.checked
  obtain ⟨-, hnone, -⟩ := hbounds.channels
  have hexec := (h.afterT tf).exec_compP_none rfl (congrArg (fun s => setTv true (writeT tf s)) hcheck) hnone hpress
  rw [compensationCommands, h.run_compT hbounds htemp, List.filter_cons_of_pos rfl]
  exact runCommands_cons_failed hexec nofun

/-- R249: with a pressure, the commands commit what `MEASURE` commits. -/
theorem InCycle.run_compensation {x : CycleResult} (hlegal : p.legal = true)
    (htemp : compT s.cfg.hasH s.dig s.adcT = x.temp) (hpress : compP s.dig s.adcP x.temp.1 = some x.press)
    (hhum : compH s.dig s.adcH x.temp.1 = x.hum) (hslp : x.slp = sealevelFn p x.press x.temp.2) :
    runCommands (compensationCommands.filter (featurePresent p)) s =
      .next (commitWindows x (commitOutputs x (setDivz false s))) := by
  obtain ⟨-, hcheckP, hcheckH⟩ := channelChecks_of_checkAll hbounds.checked
  obtain ⟨-, hnoneP, hnoneH⟩ := hbounds.channels
  let s₂ := setPv true (writeP x.press (setDivz false (setTv true (writeT x.temp s))))
  have hexecP : exec .compP (setTv true (writeT x.temp s)) = .next s₂ :=
    (h.afterT x.temp).exec_compP_some rfl (congrArg (fun s => setTv true (writeT x.temp s)) hcheckP) hnoneP hpress
  have h₂ : InCycle p s₂ := ⟨h.cfg, h.opened, h.result, h.rearm⟩
  have hcheck₂ : checkH s₂ = s₂ :=
    congrArg (fun s => setPv true (writeP x.press (setDivz false (setTv true (writeT x.temp s))))) hcheckH
  have hexecH : s₂.cfg.hasH = true → exec .compH s₂ = .next (setHv true (writeH x.hum s₂)) := fun hpresent =>
    (h₂.exec_compH hpresent rfl hcheck₂ hnoneH).trans (congrArg (fun y => (.next (setHv true (writeH y s₂)) : Out)) hhum)
  have h₃ : Computed p x (if s₂.cfg.hasH = true then setHv true (writeH x.hum s₂) else s₂) := by
    refine .ite (fun _ => ⟨⟨h.cfg, h.opened, h.result, h.rearm⟩, rfl, rfl, fun _ => rfl, rfl, rfl, fun _ => rfl⟩)
      fun hno => ⟨h₂, rfl, rfl, fun hH => ?_, rfl, rfl, fun hH => ?_⟩ <;>
    exact absurd (h₂.cfg ▸ hH) hno
  rw [compensationCommands, h.run_compT hbounds htemp, List.filter_cons_of_pos rfl, runCommands_cons_ok hexecP h.result,
    runCommands_optional (t := setHv true (writeH x.hum s₂)) h₂.cfg fun hpresent => ⟨hexecH hpresent, h.result⟩]
  exact h₃.run hlegal hslp

end

/-! ### The acquisition steps -/

section
variable {s : State} (hopen : ¬s.Blocked)
include hopen

theorem exec_chkBusy_of_ready (hpresent : s.cfg.busyCheck = true) (hready : sensorBusy s.sensorStatus = false) :
    exec .chkBusy s = .next (s.reported .ok) := by
  obtain ⟨t, h⟩ := exec_completes .chkBusy s
  obtain ⟨habsent, -⟩ | ⟨-, hclosed, -⟩ | ⟨-, -, hbusy, -⟩ | ⟨-, -, -, rfl⟩ := execChkBusy_cases h
  · simp [hpresent] at habsent
  · exact absurd hclosed hopen
  · simp [hready] at hbusy
  · exact h

theorem exec_chkBusy_of_busy (hpresent : s.cfg.busyCheck = true) (hbusy : sensorBusy s.sensorStatus = true) :
    exec .chkBusy s = .next (s.reported .sensorBusy) := by
  obtain ⟨t, h⟩ := exec_completes .chkBusy s
  obtain ⟨habsent, -⟩ | ⟨-, hclosed, -⟩ | ⟨-, -, -, rfl⟩ | ⟨-, -, hready, -⟩ := execChkBusy_cases h
  · simp [hpresent] at habsent
  · exact absurd hclosed hopen
  · exact h
  · simp [hbusy] at hready

theorem exec_unpack_of_open : exec .unpack s = .next ((writeAdc s).reported .ok) := by
  obtain ⟨t, h⟩ := exec_completes .unpack s
  obtain ⟨hclosed, -⟩ | ⟨-, rfl⟩ := execUnpack_cases h
  · exact absurd hclosed hopen
  · rw [h, writeAdc_eq]
    rfl

theorem exec_chkBounds_of_open :
    exec .chkBounds s = .next ((checkAll s).reported (if (checkAll s).bound.any = true then .outOfRange else .ok)) := by
  obtain ⟨t, h⟩ := exec_completes .chkBounds s
  obtain ⟨hclosed, -⟩ | ⟨-, hany, rfl⟩ | ⟨-, hnone, rfl⟩ := execChkBounds_cases h
  · exact absurd hclosed hopen
  · rw [h, if_pos hany]
    rfl
  · rw [h, if_neg (by simp [hnone])]
    rfl

/-- R249: the busy check, the unpacking and the bound checks leave the counts and the flags of the burst. -/
theorem run_acquisition (hready : (s.cfg.busyCheck && sensorBusy s.sensorStatus) = false) :
    runCommands (cycleCommands s.cfg) s =
      if (acquired s).bound.any = true then .next ((acquired s).reported .outOfRange)
      else runCommands (compensationCommands.filter (featurePresent s.cfg)) ((acquired s).reported .ok) := by
  have hbusy : featurePresent s.cfg .chkBusy = true →
      exec .chkBusy s = .next (s.reported .ok) ∧ (s.reported .ok).status.result = .ok := fun hpresent =>
    ⟨exec_chkBusy_of_ready hopen hpresent (by simpa [show s.cfg.busyCheck = true from hpresent] using hready), rfl⟩
  have hunpack : exec .unpack (if featurePresent s.cfg .chkBusy = true then s.reported .ok else s) =
      .next ((writeAdc s).reported .ok) := by
    split
    · rw [exec_unpack_of_open (s := s.reported .ok) hopen, writeAdc_eq, writeAdc_eq]
      rfl
    · exact exec_unpack_of_open hopen
  have hopen' : ¬((writeAdc s).reported .ok).Blocked := by
    rw [writeAdc_eq]
    exact hopen
  have hbounds : exec .chkBounds ((writeAdc s).reported .ok) =
      .next ((acquired s).reported (if (acquired s).bound.any = true then .outOfRange else .ok)) :=
    exec_chkBounds_of_open hopen'
  rw [cycleCommands, runCommands_optional rfl hbusy, List.filter_cons_of_pos rfl, runCommands_cons_ok hunpack rfl,
    List.filter_cons_of_pos rfl]
  split
  case isTrue hany =>
    rw [if_pos hany] at hbounds
    exact runCommands_cons_failed hbounds nofun
  case isFalse hnone =>
    rw [if_neg hnone] at hbounds
    exact runCommands_cons_ok hbounds rfl

end

/-! ### Agreement -/

/-- The cycle begins with a command that the gate blocks. -/
theorem cycleCommands_head (p : Params) :
    ∃ (i : Instr) (rest : List Instr), cycleCommands p = i :: rest ∧ isGated i = true ∧ featurePresent p i = true := by
  by_cases hbusy : featurePresent p .chkBusy = true
  · exact ⟨.chkBusy, _, List.filter_cons_of_pos hbusy, rfl, hbusy⟩
  · exact ⟨.unpack, _, (List.filter_cons_of_neg hbusy).trans (List.filter_cons_of_pos rfl), rfl, rfl⟩

theorem acquired_inCycle {s : State} (hopen : ¬s.Blocked) : InCycle s.cfg ((acquired s).reported .ok) where
  cfg := acquired_cfg s
  opened := by simpa [State.Blocked, State.reported] using hopen
  result := rfl
  rearm := rfl

theorem checkAll_idem (s : State) (c : ResultCode) : checkAll ((checkAll s).reported c) = (checkAll s).reported c := by
  rw [checkAll_eq ((checkAll s).reported c), checkAll_eq s]
  rfl

theorem acquired_inBounds {s : State} (h : (acquired s).bound.any = false) : InBounds ((acquired s).reported .ok) :=
  ⟨checkAll_idem (writeAdc s) .ok, h⟩

/-- Settles O50, by the five cases of `MEASURE`: the run of the step commands fails where it fails and commits what it
commits. -/
theorem stepCommandsAgreeWithMeasure : Obligations.StepCommandsAgreeWithMeasure := by
  intro s hlegal
  obtain ⟨m, hm⟩ := exec_completes .measure s
  obtain ⟨hclosed, rfl⟩ | ⟨hopen, hpresent, hbusy, rfl⟩ | ⟨hopen, hready, hany, rfl⟩ | ⟨hopen, hready, hnone, hp, rfl⟩ |
    ⟨hopen, hready, hnone, p, hp, rfl⟩ := execMeasure_cases hm
  · obtain ⟨i, rest, hcommands, hgated, hpresent⟩ := cycleCommands_head s.cfg
    have hrun : runCommands (cycleCommands s.cfg) s = .next (s.reported .configError) := by
      rw [hcommands]
      exact runCommands_cons_failed (exec_gated_of_blocked hgated hpresent hclosed) nofun
    exact ⟨_, _, hrun, hm, rfl, nofun⟩
  · have hrun : runCommands (cycleCommands s.cfg) s = .next (s.reported .sensorBusy) := by
      rw [cycleCommands, List.filter_cons_of_pos (show featurePresent s.cfg .chkBusy = true from hpresent)]
      exact runCommands_cons_failed (exec_chkBusy_of_busy hopen hpresent hbusy) nofun
    exact ⟨_, _, hrun, hm, rfl, nofun⟩
  · have hrun := run_acquisition hopen hready
    rw [if_pos hany] at hrun
    exact ⟨_, _, hrun, hm, rfl, nofun⟩
  · have hrun := run_acquisition hopen hready
    rw [← acquired_cfg s, ← acquired_dig s] at hp
    rw [if_neg (by simp [hnone]), (acquired_inCycle hopen).run_of_divByZero (acquired_inBounds hnone) rfl hp] at hrun
    exact ⟨_, _, hrun, hm, rfl, nofun⟩
  · have hrun := run_acquisition hopen hready
    rw [← acquired_cfg s, ← acquired_dig s] at hp
    have hpress : (cycleResult (acquired s) p).press = p := rfl
    have hslp : (cycleResult (acquired s) p).slp = sealevelFn s.cfg p (cycleResult (acquired s) p).temp.2 := by
      rw [← acquired_cfg s]
      rfl
    rw [if_neg (by simp [hnone]), (acquired_inCycle hopen).run_compensation (x := cycleResult (acquired s) p)
      (acquired_inBounds hnone) hlegal rfl hp rfl hslp] at hrun
    refine ⟨_, _, hrun, hm, ?_, fun _ => ?_⟩
    · rw [commitWindows_eq, commitOutputs_eq]
      rfl
    · rw [commitWindows_eq, commitOutputs_eq]
      simp [State.reported, setDivz, State.setStatus, forcedMode_eq, hpress]

end Sys2Proof.Machine
end

section
/-! Proof that the default sea-level function follows the sign of the altitude (spec/45_sealevel.md R201-R207). -/

namespace Sys2Proof.Machine

/-! ### The exponent (R201) -/

theorem baroK_nonneg {h : Int} (tc : Int) (hh : 0 ≤ h) : 0 ≤ baroK tc h :=
  Int.tdiv_nonneg (by omega) (by omega)

theorem baroK_neg (tc h : Int) : baroK tc (-h) = -baroK tc h := by
  rw [baroK, quot, Int.neg_mul, Int.neg_tdiv, baroK, quot]

theorem baroK_nonpos {h : Int} (tc : Int) (hh : h ≤ 0) : baroK tc h ≤ 0 := by
  have hneg := baroK_nonneg tc (Int.neg_nonneg_of_nonpos hh)
  rw [baroK_neg] at hneg
  omega

theorem baroK_zero (tc : Int) : baroK tc 0 = 0 := by
  rw [baroK, quot, Int.zero_mul, Int.zero_tdiv]

/-- From -40 degrees up, the exponent at a legal site below sea level is not below -1 (the unit is 2^16). -/
theorem baroK_ge {tc h : Int} (htc : -4000 ≤ tc) (hlo : -500 ≤ h) (hh : h ≤ 0) : -(2 ^ 16) ≤ baroK tc h := by
  have hneg : baroK tc (-h) ≤ 2 ^ 16 := by
    rw [baroK, quot, Int.tdiv_eq_ediv_of_nonneg (by omega)]
    exact Int.ediv_le_of_le_mul (by omega) (by omega)
  rw [baroK_neg] at hneg
  omega

/-! ### The reduced pressure (R202-R205) -/

/-- A correction has the sign of the exponent, for a pressure that is not negative. -/
theorem floorShift_mul_nonneg {p k : Int} (hp : 0 ≤ p) (hk : 0 ≤ k) : 0 ≤ floorShift (p * k) 16 :=
  Int.ediv_nonneg (Int.mul_nonneg hp hk) (by decide)

theorem floorShift_mul_nonpos {p k : Int} (hp : 0 ≤ p) (hk : k ≤ 0) : floorShift (p * k) 16 ≤ 0 := by
  have hmul := Int.mul_nonpos_of_nonneg_of_nonpos hp hk
  rw [floorShift]
  omega

/-- An exponent not below -1 takes away no more than the pressure. -/
theorem floorShift_mul_ge_neg {p k : Int} (hp : 0 ≤ p) (hk : -(2 ^ 16) ≤ k) : -p ≤ floorShift (p * k) 16 := by
  rw [floorShift, Int.le_ediv_iff_mul_le (by decide), Int.neg_mul, ← Int.mul_neg]
  exact Int.mul_le_mul_of_nonneg_left hk hp

theorem sealevelDefault_zero {p : Int} (t : Int) (hp : 0 ≤ p ∧ p < 2 ^ 32) : sealevelDefault p t 0 = p := by
  simp only [sealevelDefault, baroK_zero, floorShift, clampInt, Int.mul_zero, Int.zero_ediv, Int.add_zero]
  omega

theorem le_sealevelDefault {p h : Int} (t : Int) (hp : 0 ≤ p ∧ p < 2 ^ 32) (hh : 0 ≤ h) : p ≤ sealevelDefault p t h := by
  have hfirst := floorShift_mul_nonneg hp.1 (baroK_nonneg t hh)
  have hmean : 0 ≤ floorShift (p + (p + floorShift (p * baroK t h) 16)) 1 := Int.ediv_nonneg (by omega) (by decide)
  have hsecond := floorShift_mul_nonneg hmean (baroK_nonneg (t + quot (13 * h) 40) hh)
  simp only [sealevelDefault, clampInt]
  omega

theorem sealevelDefault_le {p t h : Int} (hp : 0 ≤ p ∧ p < 2 ^ 32) (ht : -4000 ≤ t) (hlo : -500 ≤ h) (hh : h ≤ 0) :
    sealevelDefault p t h ≤ p := by
  have hfirst := floorShift_mul_ge_neg hp.1 (baroK_ge ht hlo hh)
  have hmean : 0 ≤ floorShift (p + (p + floorShift (p * baroK t h) 16)) 1 := Int.ediv_nonneg (by omega) (by decide)
  have hsecond := floorShift_mul_nonpos hmean (baroK_nonpos (t + quot (13 * h) 40) hh)
  simp only [sealevelDefault, clampInt]
  omega

/-- R205: the result fits its register. -/
theorem sealevelFn_toNat {c : Params} (hfn : c.sealevelFn = .default) (p t : Word) :
    ((sealevelFn c p t).toNat : Int) = sealevelDefault p.toNat (asS t) c.altM := by
  have hrange : 0 ≤ sealevelDefault p.toNat (asS t) c.altM ∧ sealevelDefault p.toNat (asS t) c.altM < 2 ^ 32 := by
    simp only [sealevelDefault, clampInt]
    omega
  rw [sealevelFn, hfn, BitVec.toNat_ofInt]
  omega

/-- Settles O42: the two corrections have the sign of the altitude, and the first leaves a pressure that is not negative. -/
theorem sealevelFollowsTheAltitude : Obligations.SealevelFollowsTheAltitude := by
  intro c p t hlegal hfn
  obtain ⟨-, -, -, hlo, -⟩ := (params_legal_iff c).1 hlegal
  have hp : 0 ≤ (p.toNat : Int) ∧ (p.toNat : Int) < 2 ^ 32 := ⟨Int.natCast_nonneg _, by exact_mod_cast p.isLt⟩
  have hvalue := sealevelFn_toNat hfn p t
  refine ⟨fun halt => ?zero, fun halt => ?above, fun halt ht => ?below⟩
  case zero =>
    rw [halt, sealevelDefault_zero _ hp] at hvalue
    exact BitVec.eq_of_toNat_eq (Int.ofNat_inj.1 hvalue)
  case above =>
    have := le_sealevelDefault (asS t) hp halt.le
    omega
  case below =>
    have := sealevelDefault_le hp ht hlo halt.le
    omega

end Sys2Proof.Machine
end
